-- ==== Sys2Proof/Word.lean ====
section
/-! DEFINITION. The byte and its zero extensions (00_scope.md R7, R12: every value is unsigned). -/

namespace Sys2Proof

/-- A byte of the frame buffer, bit 0 the least significant (R7, R12). -/
abbrev Byte := BitVec 8

/-- `zext_16(v)` of R12. -/
abbrev zext16 (b : Byte) : BitVec 16 := b.setWidth 16

/-- `zext_8(v)` of R12, for the 3-bit fields of the configuration. -/
abbrev zext8 (v : BitVec 3) : Byte := v.setWidth 8

end Sys2Proof
end

