-- ==== Sys2Proof/Config.lean ====
section
/-! DEFINITION. The configuration record `CFG` (00_scope.md R8), the fixed constants (R7), the reference
presets (R10), the label `VOLT_MEANING` (R8, R148) and the one source of free values. -/

namespace Sys2Proof

/-- The configuration record `CFG`, its thirteen fields in the order and of the widths of R8 and R31. -/
structure Cfg where
  frameLen : BitVec 3
  cidCheck : Bool
  expectedCid : Byte
  csFirst : BitVec 3
  csEnd : BitVec 3
  statusOff : BitVec 3
  voltHiOff : BitVec 3
  voltLoOff : BitVec 3
  maskError : Byte
  maskVolt : Byte
  maskSupport : Byte
  supportInv : Bool
  maskDischg : Byte
deriving DecidableEq, Repr

/-- `SYNC_SENTINEL` (R7). -/
abbrev syncSentinel : Byte := 0x55#8

/-- The layout of the source with `FRAME_LEN = 6`: every field of R8 that has a default holds it, no command-id
check, and every mask `0x00`, "absent in this variant" (R147). The value the model gives `CFG_R` and the `cfg_*`
ports in `State.reset`. DESIGN CHOICE (log 1, log 2), unsafe. -/
def Cfg.layout6 : Cfg where
  frameLen := 6
  cidCheck := false
  expectedCid := 0
  csFirst := 2
  csEnd := 5
  statusOff := 2
  voltHiOff := 3
  voltLoOff := 4
  maskError := 0
  maskVolt := 0
  maskSupport := 0
  supportInv := false
  maskDischg := 0

/-- The reference preset `P6` of R10. -/
def Cfg.p6 : Cfg where
  frameLen := 6
  cidCheck := false
  expectedCid := 0x00
  csFirst := 2
  csEnd := 5
  statusOff := 2
  voltHiOff := 3
  voltLoOff := 4
  maskError := 0x80
  maskVolt := 0x40
  maskSupport := 0x20
  supportInv := true
  maskDischg := 0x10

/-- The reference preset `P7` of R10. -/
def Cfg.p7 : Cfg where
  frameLen := 7
  cidCheck := true
  expectedCid := 0x81
  csFirst := 2
  csEnd := 6
  statusOff := 2
  voltHiOff := 3
  voltLoOff := 4
  maskError := 0x80
  maskVolt := 0x40
  maskSupport := 0x20
  supportInv := false
  maskDischg := 0x10

/-- The label `VOLT_MEANING` of a variant (R8, R148): a parameter for the caller, which the block never reads
(log 20). -/
inductive VoltMeaning where
  | underVoltage
  | voltageOk
deriving DecidableEq, Repr

/-- A variant: the configuration and the label that goes with it (R8). -/
structure Variant where
  cfg : Cfg
  voltMeaning : VoltMeaning
deriving DecidableEq, Repr

/-- Preset `P6` with its label (R10). -/
def Variant.p6 : Variant := { cfg := Cfg.p6, voltMeaning := .underVoltage }

/-- Preset `P7` with its label (R10). -/
def Variant.p7 : Variant := { cfg := Cfg.p7, voltMeaning := .underVoltage }

/-- Free values: the `n`-th one, `w` bits wide. It has no body, so nothing can be proved of what it is. Used where
the spec says "any value" or "unspecified" (93 U9, U14; log 4, log 6, log 18). -/
opaque Config.freeValue (w n : Nat) : BitVec w

/-- The configuration an unspecified `CFG_R` holds: every field a free value (R42, R215; log 4). -/
def Config.freeCfg (n : Nat) : Cfg where
  frameLen := Config.freeValue 3 n
  cidCheck := (Config.freeValue 1 (n + 1)).getLsbD 0
  expectedCid := Config.freeValue 8 (n + 2)
  csFirst := Config.freeValue 3 (n + 3)
  csEnd := Config.freeValue 3 (n + 4)
  statusOff := Config.freeValue 3 (n + 5)
  voltHiOff := Config.freeValue 3 (n + 6)
  voltLoOff := Config.freeValue 3 (n + 7)
  maskError := Config.freeValue 8 (n + 8)
  maskVolt := Config.freeValue 8 (n + 9)
  maskSupport := Config.freeValue 8 (n + 10)
  supportInv := (Config.freeValue 1 (n + 11)).getLsbD 0
  maskDischg := Config.freeValue 8 (n + 12)

end Sys2Proof
end

