-- ==== Sys2Proof/Machine/CfgRules.lean ====
section
/-! DEFINITION. `CfgWF(CFG)`: when a configuration is well-formed (00_scope.md R9), clause by clause, and which
buffers a host can present (10_state.md R24). -/

namespace Sys2Proof

/-- R9 (d) for one mask: `0x00` or exactly one bit set, as R9 lists the values. -/
def maskOk (m : Byte) : Bool :=
  m == 0x00#8 || m == 0x01#8 || m == 0x02#8 || m == 0x04#8 || m == 0x08#8 ||
    m == 0x10#8 || m == 0x20#8 || m == 0x40#8 || m == 0x80#8

/-- R9 (a). -/
def Cfg.lenOk (c : Cfg) : Bool := c.frameLen == 6#3 || c.frameLen == 7#3

/-- R9 (b). -/
def Cfg.spanOk (c : Cfg) : Bool :=
  decide (2 ≤ c.csFirst.toNat ∧ c.csFirst.toNat ≤ c.csEnd.toNat ∧ c.csEnd.toNat ≤ c.frameLen.toNat - 1)

/-- R9 (c) for one offset. -/
def Cfg.offOk (c : Cfg) (off : BitVec 3) : Bool :=
  decide (2 ≤ off.toNat ∧ off.toNat ≤ c.frameLen.toNat - 2)

/-- R9 (c). -/
def Cfg.offsetsOk (c : Cfg) : Bool := c.offOk c.statusOff && c.offOk c.voltHiOff && c.offOk c.voltLoOff

/-- R9 (d). -/
def Cfg.masksOk (c : Cfg) : Bool :=
  maskOk c.maskError && maskOk c.maskVolt && maskOk c.maskSupport && maskOk c.maskDischg

/-- `CfgWF(CFG)`, R9. -/
def Cfg.wf (c : Cfg) : Bool := c.lenOk && c.spanOk && c.offsetsOk && c.masksOk

/-- A buffer the host can present: its length fits the 8-bit `len` port (R24, D21). -/
def presentable (bytes : List Byte) : Bool := decide (bytes.length ≤ 255)

end Sys2Proof
end

