-- ==== Sys2Proof/Syntax.lean ====
section
/-! DEFINITION. One constructor for every row of spec/opcode_table.json (30_encoding.md R80). -/

namespace Sys2Proof

/-- The eighteen rows of the opcode table. The ten phase codes and `START` have no operand in their encoding: what
they work on is registers, configuration and buffer. A frame row carries the byte fields its pattern leaves open;
the sync byte is fixed (R71, R72). -/
inductive Instr where
  /-- `IDLE`, `PHASE4` code 0 (R166). -/
  | idle
  /-- `V_LEN`, code 1 (R118). -/
  | vLen
  /-- `V_SYNC`, code 2 (R119). -/
  | vSync
  /-- `V_CID`, code 3 (R120). -/
  | vCid
  /-- `C_INIT`, code 4 (R107). -/
  | cInit
  /-- `C_ADD`, code 5 (R108). -/
  | cAdd
  /-- `C_FIN`, code 6 (R109). -/
  | cFin
  /-- `V_CSUM`, code 7 (R121). -/
  | vCsum
  /-- `X_FLAGS`, code 8 (R145). -/
  | xFlags
  /-- `X_VOLT`, code 9 (R156). -/
  | xVolt
  /-- The host command `START` (R165). -/
  | start
  /-- A six-byte frame (R71). -/
  | frame6 (cid status vhi vlo checksum : Byte)
  /-- A seven-byte frame (R72). -/
  | frame7 (cid status vhi vlo status2 checksum : Byte)
  /-- `ERR_CODE` 0: no error (R76, R156). -/
  | errNone
  /-- `ERR_CODE` 1 (R186). -/
  | lengthMismatch
  /-- `ERR_CODE` 2 (R187). -/
  | badSync
  /-- `ERR_CODE` 3 (R188). -/
  | badCommandId
  /-- `ERR_CODE` 4 (R189). -/
  | checksumMismatch
deriving DecidableEq, Repr

end Sys2Proof
end

