-- ==== Sys2Proof/Decode.lean ====
section
/-! DEFINITION. The encodings of 30_encoding.md and opcode_table.json: the decoder, total and rejecting by name, and
after it the encoder. -/

namespace Sys2Proof

/-- An encoded thing of the opcode table (R80): the formats have no common tag bit, so the format is said beside the
bits. A frame is the sequence of the bytes presented, offset 0 first (R70). -/
inductive Encoded where
  /-- Format `PHASE4` (R75). -/
  | phase4 (code : BitVec 4)
  /-- Format `HOSTCMD`: the `start` port (R80). -/
  | hostCmd (bit : BitVec 1)
  /-- Formats `FRAME6` and `FRAME7`, and any other byte sequence (R71, R72, R81). -/
  | frame (bytes : List Byte)
  /-- Format `ERRCODE3` (R76). -/
  | errCode3 (code : BitVec 3)
deriving DecidableEq, Repr

/-- Why a word is no row of the table. -/
inductive DecodeError where
  /-- `PHASE` codes 10 to 15 (R83). -/
  | reservedPhase (code : BitVec 4)
  /-- `start = 0` is no command (R165, R166). -/
  | noCommand
  /-- Neither 6 nor 7 bytes (R70). -/
  | notAFrameLength (n : Nat)
  /-- The first byte is not the fixed `01010101` of the patterns (R71, R72). -/
  | notASyncByte (b : Byte)
  /-- `ERR_CODE` values 5 to 7 (R84). -/
  | reservedErrCode (code : BitVec 3)
deriving DecidableEq, Repr

/-- R75: the code selects the micro-operation. -/
def decodePhase4 (code : BitVec 4) : Except DecodeError Instr :=
  if code = 0b0000#4 then .ok .idle
  else if code = 0b0001#4 then .ok .vLen
  else if code = 0b0010#4 then .ok .vSync
  else if code = 0b0011#4 then .ok .vCid
  else if code = 0b0100#4 then .ok .cInit
  else if code = 0b0101#4 then .ok .cAdd
  else if code = 0b0110#4 then .ok .cFin
  else if code = 0b0111#4 then .ok .vCsum
  else if code = 0b1000#4 then .ok .xFlags
  else if code = 0b1001#4 then .ok .xVolt
  else .error (.reservedPhase code)

/-- R80 (b): the `start` port. -/
def decodeHostCmd (bit : BitVec 1) : Except DecodeError Instr :=
  if bit = 0b1#1 then .ok .start else .error .noCommand

/-- R71, R72: `01010101 cccccccc ssssssss hhhhhhhh llllllll kkkkkkkk` and
`01010101 cccccccc ssssssss hhhhhhhh llllllll tttttttt kkkkkkkk`. -/
def decodeFrameBytes (bytes : List Byte) : Except DecodeError Instr :=
  match bytes with
  | [sync, c, s, h, l, k] =>
    if sync = 0b01010101#8 then .ok (.frame6 c s h l k) else .error (.notASyncByte sync)
  | [sync, c, s, h, l, t, k] =>
    if sync = 0b01010101#8 then .ok (.frame7 c s h l t k) else .error (.notASyncByte sync)
  | other => .error (.notAFrameLength other.length)

/-- R76: the value of `ERR_CODE`. -/
def decodeErrCode3 (code : BitVec 3) : Except DecodeError Instr :=
  if code = 0b000#3 then .ok .errNone
  else if code = 0b001#3 then .ok .lengthMismatch
  else if code = 0b010#3 then .ok .badSync
  else if code = 0b011#3 then .ok .badCommandId
  else if code = 0b100#3 then .ok .checksumMismatch
  else .error (.reservedErrCode code)

/-- The decoder: total, rejecting by name. -/
def decodeWord : Encoded → Except DecodeError Instr
  | .phase4 code => decodePhase4 code
  | .hostCmd bit => decodeHostCmd bit
  | .frame bytes => decodeFrameBytes bytes
  | .errCode3 code => decodeErrCode3 code

/-- The encoder, from the same tables (R71, R72, R75, R76, R80). -/
def encode : Instr → Encoded
  | .idle => .phase4 0b0000#4
  | .vLen => .phase4 0b0001#4
  | .vSync => .phase4 0b0010#4
  | .vCid => .phase4 0b0011#4
  | .cInit => .phase4 0b0100#4
  | .cAdd => .phase4 0b0101#4
  | .cFin => .phase4 0b0110#4
  | .vCsum => .phase4 0b0111#4
  | .xFlags => .phase4 0b1000#4
  | .xVolt => .phase4 0b1001#4
  | .start => .hostCmd 0b1#1
  | .frame6 c s h l k => .frame [0b01010101#8, c, s, h, l, k]
  | .frame7 c s h l t k => .frame [0b01010101#8, c, s, h, l, t, k]
  | .errNone => .errCode3 0b000#3
  | .lengthMismatch => .errCode3 0b001#3
  | .badSync => .errCode3 0b010#3
  | .badCommandId => .errCode3 0b011#3
  | .checksumMismatch => .errCode3 0b100#3

/-- The bits of a value, most significant first (R12, R70). -/
def bitsMsbFirst (n : Nat) (v : BitVec n) : List Bool := (List.range n).map (fun i => v.getMsbD i)

/-- An encoded thing as the bit string of the opcode table, leftmost bit first: a frame is byte 0 first and, inside
each byte, bit 7 first (R70, R80). -/
def Encoded.bits : Encoded → List Bool
  | .phase4 code => bitsMsbFirst 4 code
  | .hostCmd bit => bitsMsbFirst 1 bit
  | .frame bytes => bytes.flatMap (bitsMsbFirst 8)
  | .errCode3 code => bitsMsbFirst 3 code

/-- The bytes of a word whose byte `i` is bits `8*i+7 .. 8*i`, the first byte (offset 0) lowest. -/
def bytesOfWord (n w : Nat) : List Byte := (List.range n).map (fun i => BitVec.ofNat 8 (w / 2 ^ (8 * i)))

/-- The encoded thing a word of the opcode table stands for, by its number of bits: 48 and 56 are frames, 4 (and 8, a
whole byte) a phase code, 1 the `start` port, 3 an `ERR_CODE` (log 15). -/
def wordOfTable (nbits w : Nat) : Option Encoded :=
  if nbits = 48 then (if w < 2 ^ 48 then some (.frame (bytesOfWord 6 w)) else none)
  else if nbits = 56 then (if w < 2 ^ 56 then some (.frame (bytesOfWord 7 w)) else none)
  else if nbits = 4 ∨ nbits = 8 then (if w < 16 then some (.phase4 (BitVec.ofNat 4 w)) else none)
  else if nbits = 1 then (if w < 2 then some (.hostCmd (BitVec.ofNat 1 w)) else none)
  else if nbits = 3 then (if w < 8 then some (.errCode3 (BitVec.ofNat 3 w)) else none)
  else none

/-- The instruction the decoder reads from a word of the opcode table (log 15). -/
def decodeTableWord (nbits w : Nat) : Option Instr :=
  match wordOfTable nbits w with
  | some e =>
    match decodeWord e with
    | .ok i => some i
    | .error _ => none
  | none => none

end Sys2Proof
end

