-- ==== Sys2Proof/Machine/State.lean ====
section
/-! DEFINITION. The state of one instance of the block (10_state.md R20), its environment (R37, R41), the moves of the
host (R11, R38, R88), the reasons a step can stop, and the state after reset (R42, R215). Every field is plain data. -/

namespace Sys2Proof.Machine

/-- The ten values of `PHASE` (R25, R75). Codes 10 to 15 are reserved and unreachable: "a model's `PHASE` type has
only the ten named values" (R83; log 14). -/
inductive Phase where
  | idle | vLen | vSync | vCid | cInit | cAdd | cFin | vCsum | xFlags | xVolt
deriving DecidableEq, Repr

/-- The frame buffer: the bytes the host has presented, by offset, offsets strictly rising. An offset that is not
listed has no value (log 7). -/
abbrev Memory := List Host.Cell

/-- What the host can do to the block and to its own buffer and ports (R11, R38, R88, R169). One move is one step of
the machine (log 5). -/
inductive HostMove where
  /-- Drive the `cfg_*` ports (R37, R88 `CFG`). -/
  | cfg (c : Cfg)
  /-- Place bytes in the buffer from offset 0 and drive `len` with their number (R88 `FRAME`). -/
  | frame (bytes : List Byte)
  /-- Drive the `len` port (R37, R88 `LEN`). -/
  | len (n : BitVec 8)
  /-- Write one byte of the buffer, which belongs to the host (R51, R61; log 23). -/
  | poke (off : BitVec 8) (b : Byte)
  /-- A step in which the pins hold these values: `rst` wins over `start` (R215), `start` is the host command (R165),
  and with both low the sequencer steps (R175; R88 `STEP 1`). -/
  | pins (rst start : Bool)
  /-- Let the sequencer step until `RES_VALID = 1` (R88 `WAIT`, R168). -/
  | wait
  /-- Have one whole frame decoded, `decode(cfg, frame)` as a transaction (R87, R89; log 11). -/
  | transact (bytes : List Byte)
deriving DecidableEq, Repr

/-- Why the machine stops with a fault. Neither is reached from a state that meets `SeqInv` (R59). -/
inductive Fault where
  /-- A micro-operation, or the report of an error, reads an offset not below `LEN_R`: `MemRead` "is defined only for
  `off < LEN`" (R50). Safe (log 7). -/
  | offsetBeyondLen (off : Nat)
  /-- A read below `LEN_R` of a byte the host has not presented: "`len` … not equal to the true number of readable
  bytes" (93 U15). Safe (log 7). -/
  | byteNotPresented (off : Nat)
deriving DecidableEq, Repr

/-- Why a step is refused. -/
inductive Refusal where
  /-- An instruction with no meaning: no arm of `exec` answers it now. Safe. -/
  | notModelled (mnemonic : String)
  /-- `START`, or a frame row, with ill-formed `cfg_*` ports: "a model refuses it" (R9, D26, 93 U8). Safe. -/
  | illFormedConfig
  /-- `START` with fewer than `len` readable bytes in the buffer (R165, R222, 93 U15). Safe (log 8). -/
  | bufferShorterThanLen
  /-- `START` with a readable byte at or past `len`, so that `len` is not "the true number of readable bytes" (R222, 93
  U15). Safe (log 8). -/
  | bufferLongerThanLen
  /-- The host presents more than 255 bytes: "a model of the sequencer view refuses `len > 255`" (D21). Safe (log 10). -/
  | bufferTooLong
  /-- A word the decoder rejects. The sequencer's own words always decode, so no step answers this. Safe. -/
  | undecodable (why : DecodeError)
deriving DecidableEq, Repr

/-- The state: the registers of R20, then the environment of R41 and R175, then the model's own bookkeeping (log 3). -/
structure State where
  /-- `PHASE` (R25). -/
  phase : Phase
  /-- `IDX` (R22). -/
  idx : BitVec 3
  /-- `ACC` (R21). -/
  acc : BitVec 16
  /-- `CSUM` (R23). -/
  csum : BitVec 8
  /-- `LEN_R` (R24). -/
  lenR : BitVec 8
  /-- `CFG_R` (R31). -/
  cfgR : Cfg
  /-- `RES_VALID` (R32). -/
  resValid : Bool
  /-- `RES_OK` (R33). -/
  resOk : Bool
  /-- `ERR_CODE` (R34). -/
  errCode : BitVec 3
  /-- `DIAG0` (R35). -/
  diag0 : BitVec 8
  /-- `DIAG1` (R35). -/
  diag1 : BitVec 8
  /-- `VOLTAGE` (R36). -/
  voltage : BitVec 16
  /-- `HAS_ERROR` (R27). -/
  hasError : Bool
  /-- `VOLT_FLAG` (R28). -/
  voltFlag : Bool
  /-- `IS_SUPPORTED` (R29). -/
  isSupported : Bool
  /-- `DISCHG` (R30). -/
  dischg : Bool
  /-- The `cfg_*` ports as the host drives them (R37). -/
  cfgPort : Cfg
  /-- The `len` port as the host drives it (R37). -/
  lenPort : BitVec 8
  /-- The frame buffer `FB` (R39, R50). -/
  fb : Memory
  /-- The host moves still to come, oldest first (log 5). -/
  inbox : List HostMove
  /-- The host changed a byte below `LEN_R` since the running transaction's `START` (R61; log 6). -/
  disturbed : Bool
  /-- How many free values have been drawn (log 3). -/
  draws : Nat
deriving DecidableEq, Repr

/-- Right after reset. R42 and R215 give `PHASE = IDLE` and `RES_VALID = 0`; every other value is a DESIGN CHOICE
(log 1 the registers, log 2 the ports and the buffer, log 3 the bookkeeping), unsafe. -/
def State.reset : State where
  phase := .idle
  idx := 0
  acc := 0
  csum := 0
  lenR := 0
  cfgR := Cfg.layout6
  resValid := false
  resOk := false
  errCode := 0
  diag0 := 0
  diag1 := 0
  voltage := 0
  hasError := false
  voltFlag := false
  isSupported := false
  dischg := false
  cfgPort := Cfg.layout6
  lenPort := 0
  fb := []
  inbox := []
  disturbed := false
  draws := 0

/-- The outcome of one step of this machine. -/
abbrev Outcome := Host.Outcome State Fault Refusal

end Sys2Proof.Machine
end

