-- ==== Sys2Proof/Machine/Ops.lean ====
section
/-! DEFINITION. The shared operations: the frame buffer (20_memory.md), the phase codes and the word the sequencer
fetches (R75), reading a byte, the failure procedure `fail` (60_exceptions.md R193), the successful end (R156), the
latching of `START` (R165), and the reset pin (R215).

Taking an exception is `State.fail`. There is no return beside it: "There is no return instruction and nothing to
restore or re-enable" (R197). -/

namespace Sys2Proof.Machine

/-! ## The frame buffer -/

/-- The byte at an offset, or no value where the host has presented none (R50; log 7). -/
def Memory.read : Memory → Nat → Option Byte
  | [], _ => none
  | (a, b) :: m, off => if a = off then some b else Memory.read m off

/-- The host writes one byte of its buffer (R51, R61), keeping the offsets rising. -/
def Memory.write : Memory → Nat → Byte → Memory
  | [], off, v => [(off, v)]
  | (a, b) :: m, off, v =>
    if off < a then (off, v) :: (a, b) :: m
    else if off = a then (off, v) :: m
    else (a, b) :: Memory.write m off v

/-- The bytes of a sequence at offsets `k`, `k + 1`, and so on. -/
def Memory.ofBytesFrom (k : Nat) : List Byte → Memory
  | [] => []
  | b :: bs => (k, b) :: Memory.ofBytesFrom (k + 1) bs

/-- The buffer that holds a frame: `frame[i]` at offset `i` (R50). -/
def Memory.ofBytes (bytes : List Byte) : Memory := Memory.ofBytesFrom 0 bytes

/-- Every offset listed is at least `k`, and the offsets rise strictly. -/
def Memory.risingFrom : Nat → Memory → Bool
  | _, [] => true
  | k, (a, _) :: m => decide (k ≤ a) && Memory.risingFrom (a + 1) m

/-- The canonical form: offsets strictly rising. An unlisted offset has no value, so no entry can equal it. -/
def Memory.wf (m : Memory) : Bool := Memory.risingFrom 0 m

/-- Offsets `0 .. n-1` are all readable (R165, R222). -/
def Memory.covers (m : Memory) (n : Nat) : Bool := (List.range n).all (fun i => (Memory.read m i).isSome)

/-- No byte at or past `n` is readable: with `covers`, `n` is "the true number of readable bytes" (R222). -/
def Memory.endsBy (m : Memory) (n : Nat) : Bool := m.all (fun c => decide (c.1 < n))

/-- Two buffers agree at offsets `0 .. n-1`. -/
def Memory.agreeBelow (m m' : Memory) (n : Nat) : Bool :=
  (List.range n).all (fun i => Memory.read m i == Memory.read m' i)

/-! ## Phases -/

/-- The codes of R75. -/
def Phase.code : Phase → BitVec 4
  | .idle => 0
  | .vLen => 1
  | .vSync => 2
  | .vCid => 3
  | .cInit => 4
  | .cAdd => 5
  | .cFin => 6
  | .vCsum => 7
  | .xFlags => 8
  | .xVolt => 9

/-- What selects the sequencer's next micro-operation: the code in `PHASE` (R25). -/
def State.fetchWord (s : State) : Encoded := .phase4 s.phase.code

/-- The output `busy = (PHASE != IDLE)` (R25, R37). -/
def State.busy (s : State) : Bool := s.phase != .idle

/-- `PHASE <- p` (R16), with nothing else written. -/
def State.toPhase (s : State) (p : Phase) : State := { s with phase := p }

/-- The same state with these host moves to come. -/
def State.withInbox (s : State) (moves : List HostMove) : State := { s with inbox := moves }

/-! ## Reading the buffer -/

/-- `MemRead(off, 1)` (R15, R50): defined only below `LEN_R`. After the host changed the buffer in mid-transaction it
is any value, a new one for every read (R61, 93 U14; log 6). -/
def State.memRead (s : State) (off : Nat) : Except Fault Byte :=
  if s.lenR.toNat ≤ off then .error (.offsetBeyondLen off)
  else if s.disturbed then .ok (Config.freeValue 8 s.draws)
  else
    match Memory.read s.fb off with
    | some b => .ok b
    | none => .error (.byteNotPresented off)

/-- A read has no side effect on the machine (R57); only the count of free values moves, where one was drawn. -/
def State.noteRead (s : State) : State := { s with draws := if s.disturbed then s.draws + 1 else s.draws }

/-- Read a byte and go on with it. -/
def State.withByte (s : State) (off : Nat) (k : Byte → State → Outcome) : Outcome :=
  match s.memRead off with
  | .ok b => k b s.noteRead
  | .error f => .fault f

/-! ## The end of a transaction -/

/-- `fail(code, d0, d1)` (R193): what a failing check records. `ACC`, `IDX`, `CSUM`, `LEN_R`, `CFG_R` keep what they
held. -/
def State.fail (s : State) (code : BitVec 3) (d0 d1 : Byte) : State :=
  { s with
    errCode := code
    diag0 := d0
    diag1 := d1
    resOk := false
    voltage := 0x0000
    hasError := false
    voltFlag := false
    isSupported := false
    dischg := false
    resValid := true
    phase := .idle }

/-- The successful end (R156): the voltage and the status; the four flags keep what `X_FLAGS` gave them. -/
def State.succeed (s : State) (v : BitVec 16) : State :=
  { s with
    voltage := v
    resOk := true
    errCode := 0
    diag0 := 0x00
    diag1 := 0x00
    resValid := true
    phase := .idle }

/-! ## What the host does -/

/-- What `START` does when it is taken (R165): it samples `cfg_*` and `len`, and the transaction begins on the buffer
as it now is. -/
def State.latch (s : State) : State :=
  { s with
    cfgR := s.cfgPort
    lenR := s.lenPort
    resValid := false
    phase := .vLen
    disturbed := false }

/-- The host makes its buffer `fb`. If that changes a byte below `LEN_R` while a transaction runs, its later reads
return any value (R61, R223; log 6). -/
def State.hostWrites (s : State) (fb : Memory) : State :=
  { s with
    fb := fb
    disturbed := s.disturbed || (s.busy && !(Memory.agreeBelow s.fb fb s.lenR.toNat)) }

/-- The host fills the buffer from offset 0 and drives `len` with the number of bytes (R88 `FRAME`; log 9). -/
def State.present (s : State) (bytes : List Byte) : State :=
  { s.hostWrites (Memory.ofBytes bytes) with lenPort := BitVec.ofNat 8 bytes.length }

/-- The reset pin (R215): `PHASE` and `RES_VALID` are specified, "every other register becomes or stays unspecified",
a free value each (log 4). The host's buffer and ports are not touched (R216). -/
def State.resetPin (s : State) : State :=
  { s with
    phase := .idle
    resValid := false
    idx := Config.freeValue 3 s.draws
    acc := Config.freeValue 16 (s.draws + 1)
    csum := Config.freeValue 8 (s.draws + 2)
    lenR := Config.freeValue 8 (s.draws + 3)
    resOk := (Config.freeValue 1 (s.draws + 4)).getLsbD 0
    errCode := Config.freeValue 3 (s.draws + 5)
    diag0 := Config.freeValue 8 (s.draws + 6)
    diag1 := Config.freeValue 8 (s.draws + 7)
    voltage := Config.freeValue 16 (s.draws + 8)
    hasError := (Config.freeValue 1 (s.draws + 9)).getLsbD 0
    voltFlag := (Config.freeValue 1 (s.draws + 10)).getLsbD 0
    isSupported := (Config.freeValue 1 (s.draws + 11)).getLsbD 0
    dischg := (Config.freeValue 1 (s.draws + 12)).getLsbD 0
    cfgR := Config.freeCfg (s.draws + 13)
    disturbed := false
    draws := s.draws + 26 }

end Sys2Proof.Machine
end

