-- ==== Sys2Proof/Machine/Operands.lean ====
section
/-! DEFINITION. The operands of the micro-operations: which offsets each reads (20_memory.md R56), how a configuration
selects bytes of a frame (30_encoding.md R79), and the two bytes of the voltage (43_voltage_decoder.md R155). -/

namespace Sys2Proof.Machine

/-- `frame[i]` of the function view (R13, R52). Every rule applies it below the length of the frame; past the end it
is a free value, so nothing can rest on it (log 18). -/
def byteAt (frame : List Byte) (i : Nat) : Byte := frame.getD i (Config.freeValue 8 i)

/-- `frame[a .. b)`, half-open (R13). Where `b` passes `len(frame)`, which R13 does not speak of, the range is cut at the
end of the list: a DESIGN CHOICE that only `decode` under an ill-formed configuration can reach (log 26). -/
def bytesBetween (frame : List Byte) (a b : Nat) : List Byte := (frame.drop a).take (b - a)

/-- The data span `frame[CS_FIRST .. CS_END)` (R79). -/
def spanBytes (cfg : Cfg) (frame : List Byte) : List Byte := bytesBetween frame cfg.csFirst.toNat cfg.csEnd.toNat

/-- The offset of the checksum byte, `FRAME_LEN - 1` (R7, R121; log 13). -/
def lastOff (cfg : Cfg) : Nat := cfg.frameLen.toNat - 1

/-- `voltage_decode(hi, lo)`: `hi ## lo` (R155). -/
def voltageDecode (hi lo : Byte) : BitVec 16 := hi ++ lo

/-- The offsets the micro-operation selected by `PHASE` reads, in order (R56). -/
def State.reads (s : State) : List Nat :=
  match s.phase with
  | .idle => []
  | .vLen => []
  | .vSync => [0]
  | .vCid => [1]
  | .cInit => [1]
  | .cAdd => [s.idx.toNat]
  | .cFin => []
  | .vCsum => [lastOff s.cfgR]
  | .xFlags => [s.cfgR.statusOff.toNat]
  | .xVolt => [s.cfgR.voltHiOff.toNat, s.cfgR.voltLoOff.toNat]

/-- What the port `fb_addr` carries in this step, one 3-bit offset after another (R37, R50). -/
def State.fbAddr (s : State) : List (BitVec 3) := s.reads.map (BitVec.ofNat 3)

/-- What the port `fb_data` answers for an offset, while the host leaves the buffer alone (R37, R50). -/
def State.fbData (s : State) (addr : BitVec 3) : Option Byte := Memory.read s.fb addr.toNat

end Sys2Proof.Machine
end

