-- ==== Sys2Proof/Machine/Flags.lean ====
section
/-! DEFINITION. The bit extractor (42_bit_extractor.md): `bit_extract` and the four flags of a status byte. -/

namespace Sys2Proof.Machine

/-- `bit_extract(s, m)`: 1 if `(s & m) != 0x00`, else 0 (R140). -/
def bitExtract (s m : Byte) : Bool := (s &&& m) != 0x00#8

/-- `hasError` (R141). -/
def flagHasError (cfg : Cfg) (s : Byte) : Bool := bitExtract s cfg.maskError

/-- `voltFlag`, the raw bit (R142). -/
def flagVolt (cfg : Cfg) (s : Byte) : Bool := bitExtract s cfg.maskVolt

/-- `isSupported`, with the polarity of the variant (R143). -/
def flagIsSupported (cfg : Cfg) (s : Byte) : Bool := bitExtract s cfg.maskSupport ^^ cfg.supportInv

/-- `discharge` (R144). -/
def flagDischarge (cfg : Cfg) (s : Byte) : Bool := bitExtract s cfg.maskDischg

/-- What `VOLT_FLAG = 1` says of the battery. -/
inductive VoltClaim where
  | underVoltage
  | voltageOk
deriving DecidableEq, Repr

/-- How the caller reads `VOLT_FLAG` under the variant's label (R148): the rule says what a 1 reads as, and nothing of
a 0. Not part of the hardware (log 20). -/
def readVoltFlag (meaning : VoltMeaning) (flag : Bool) : Option VoltClaim :=
  if flag then
    match meaning with
    | .underVoltage => some .underVoltage
    | .voltageOk => some .voltageOk
  else none

end Sys2Proof.Machine
end

