-- ==== Sys2Proof/Machine/Result.lean ====
section
/-! DEFINITION. The result of a transaction: the types of the function view (00_scope.md R18), their image in the
result registers (44_sequencer_and_host.md R177), and how the host reads it back (R167). -/

namespace Sys2Proof.Machine

/-- `FrameError` (R18, R185). The two lengths are numbers; they fit a byte for every buffer that can be presented. -/
inductive FrameError where
  | lengthMismatch (expected actual : Nat)
  | badSync (received : Byte)
  | badCommandId (expected received : Byte)
  | checksumMismatch (calculated received : Byte)
deriving DecidableEq, Repr

/-- `DecodedStatus` and the auxiliary bit `discharge` (R18, R144). -/
structure Decoded where
  voltage : BitVec 16
  hasError : Bool
  voltFlag : Bool
  isSupported : Bool
  discharge : Bool
deriving DecidableEq, Repr

/-- `Result<DecodedStatus, FrameError>` (R18). -/
inductive Result where
  | ok (d : Decoded)
  | err (e : FrameError)
deriving DecidableEq, Repr

/-- The nine result registers of R177. -/
structure ResultRegs where
  resOk : Bool
  errCode : BitVec 3
  diag0 : BitVec 8
  diag1 : BitVec 8
  voltage : BitVec 16
  hasError : Bool
  voltFlag : Bool
  isSupported : Bool
  dischg : Bool
deriving DecidableEq, Repr

/-- A failure row of R177: zeros for the voltage and the flags. -/
def errRegs (code : BitVec 3) (d0 d1 : Byte) : ResultRegs where
  resOk := false
  errCode := code
  diag0 := d0
  diag1 := d1
  voltage := 0x0000
  hasError := false
  voltFlag := false
  isSupported := false
  dischg := false

/-- `regs_of(result)` (R177). An `actual` above 255 "has no register image" (D21): the low byte it gets here is the
model's choice, a DESIGN CHOICE that no transaction reaches (log 25). -/
def regsOf : Result → ResultRegs
  | .ok d =>
    { resOk := true, errCode := 0, diag0 := 0x00, diag1 := 0x00, voltage := d.voltage, hasError := d.hasError,
      voltFlag := d.voltFlag, isSupported := d.isSupported, dischg := d.discharge }
  | .err (.lengthMismatch expected actual) => errRegs 1 (BitVec.ofNat 8 expected) (BitVec.ofNat 8 actual)
  | .err (.badSync received) => errRegs 2 0x55 received
  | .err (.badCommandId expected received) => errRegs 3 expected received
  | .err (.checksumMismatch calculated received) => errRegs 4 calculated received

/-- The result registers of a state. -/
def State.resultRegs (s : State) : ResultRegs where
  resOk := s.resOk
  errCode := s.errCode
  diag0 := s.diag0
  diag1 := s.diag1
  voltage := s.voltage
  hasError := s.hasError
  voltFlag := s.voltFlag
  isSupported := s.isSupported
  dischg := s.dischg

/-- The end of a transaction with these result registers: `RES_VALID = 1`, `PHASE = IDLE` (R156, R193). -/
def State.report (s : State) (r : ResultRegs) : State :=
  { s with
    resOk := r.resOk
    errCode := r.errCode
    diag0 := r.diag0
    diag1 := r.diag1
    voltage := r.voltage
    hasError := r.hasError
    voltFlag := r.voltFlag
    isSupported := r.isSupported
    dischg := r.dischg
    resValid := true
    phase := .idle }

/-- What the registers say when `RES_VALID = 1` (R35, R167, R177). `ERR_CODE` values the block never writes beside
`RES_OK = 0` say nothing (R84). -/
def resultOf (r : ResultRegs) : Option Result :=
  if r.resOk then
    some (.ok { voltage := r.voltage, hasError := r.hasError, voltFlag := r.voltFlag, isSupported := r.isSupported,
                discharge := r.dischg })
  else if r.errCode = 1#3 then some (.err (.lengthMismatch r.diag0.toNat r.diag1.toNat))
  else if r.errCode = 2#3 then some (.err (.badSync r.diag1))
  else if r.errCode = 3#3 then some (.err (.badCommandId r.diag0 r.diag1))
  else if r.errCode = 4#3 then some (.err (.checksumMismatch r.diag0 r.diag1))
  else none

/-- The host reads the result (R167): no value while `RES_VALID = 0` (R32, R225; log 19). It changes nothing (R38). -/
def State.readResult (s : State) : Option Result := if s.resValid then resultOf s.resultRegs else none

end Sys2Proof.Machine
end

