-- ==== Sys2Proof/Machine/Errors.lean ====
section
/-! DEFINITION. The reports a transaction ends with: the five rows of format `ERRCODE3` (30_encoding.md R76). A failing
check and the row of its error share one operation, `raise…`, over the one procedure `fail` (60_exceptions.md R193);
log 12 says when a step runs a row. -/

namespace Sys2Proof.Machine

/-- `LengthMismatch{expected, actual}` (R186). -/
def State.raiseLengthMismatch (s : State) : State := s.fail 1 (zext8 s.cfgR.frameLen) s.lenR

/-- `BadSync{received}` (R187). -/
def State.raiseBadSync (s : State) (received : Byte) : State := s.fail 2 syncSentinel received

/-- `BadCommandId{expected, received}` (R188). -/
def State.raiseBadCommandId (s : State) (received : Byte) : State := s.fail 3 s.cfgR.expectedCid received

/-- `ChecksumMismatch{calculated, received}` (R189). -/
def State.raiseChecksumMismatch (s : State) (received : Byte) : State := s.fail 4 s.csum received

/-- The success of R156: both voltage bytes read, high byte first, and the transaction completed. -/
def State.completeOk (s : State) : Outcome :=
  s.withByte s.cfgR.voltHiOff.toNat fun hi s1 =>
    s1.withByte s.cfgR.voltLoOff.toNat fun lo s2 => .next (s2.succeed (voltageDecode hi lo))

/-- `ERR_NONE`, the report of code 0, whose rule is R156: "no error, RES_OK = 1, DIAG0 = DIAG1 = 0x00". -/
def execErrNone (s : State) : Outcome := s.completeOk

/-- `LengthMismatch`: records `FRAME_LEN` and `LEN_R`; "No byte of the buffer has been read" (R186). -/
def execLengthMismatch (s : State) : Outcome := .next s.raiseLengthMismatch

/-- `BadSync`: records `frame[0]` (R187). -/
def execBadSync (s : State) : Outcome := s.withByte 0 fun b s' => .next (s'.raiseBadSync b)

/-- `BadCommandId`: records `EXPECTED_CID` and `frame[1]` (R188). -/
def execBadCommandId (s : State) : Outcome := s.withByte 1 fun b s' => .next (s'.raiseBadCommandId b)

/-- `ChecksumMismatch`: records `CSUM` and `frame[FRAME_LEN-1]` (R189). -/
def execChecksumMismatch (s : State) : Outcome :=
  s.withByte (lastOff s.cfgR) fun r s' => .next (s'.raiseChecksumMismatch r)

end Sys2Proof.Machine
end

