-- ==== Sys2Proof/Machine/Checksum.lean ====
section
/-! DEFINITION. The checksum engine (40_checksum_engine.md): the function of R95 to R98 and the micro-operations
`C_INIT`, `C_ADD`, `C_FIN`. -/

namespace Sys2Proof.Machine

/-- `fold(a)`: if `a >= 256` then `a - 255` else `a`, once (R96, R230). -/
def fold (a : BitVec 16) : BitVec 16 := if 256#16 ≤ a then a - 255#16 else a

/-- `cs_step(acc, b)` (R97). -/
def csStep (acc : BitVec 16) (b : Byte) : BitVec 16 := fold (acc + zext16 b)

/-- The accumulator after the seed and the data bytes in order (R98). -/
def accumulate (seed : Byte) (data : List Byte) : BitVec 16 := data.foldl csStep (zext16 seed)

/-- `(~acc)[7:0]` (R98, R109). -/
def complementLow (acc : BitVec 16) : Byte := (~~~acc).extractLsb' 0 8

/-- `compute_checksum(seed, data)` (R98). -/
def computeChecksum (seed : Byte) (data : List Byte) : Byte := complementLow (accumulate seed data)

/-- How many of the steps fold (R104). -/
def foldCount (acc : BitVec 16) : List Byte → Nat
  | [] => 0
  | b :: bs => (if 256#16 ≤ acc + zext16 b then 1 else 0) + foldCount (csStep acc b) bs

/-- `C_INIT` (R107): the seed, the first offset of the span, and past `C_ADD` when the span is empty. -/
def execCInit (s : State) : Outcome :=
  s.withByte 1 fun b s' =>
    .next { s' with
      acc := zext16 b
      idx := s.cfgR.csFirst
      phase := if s.cfgR.csFirst < s.cfgR.csEnd then .cAdd else .cFin }

/-- `C_ADD` (R108): one byte of the span. `IDX + 1 < CS_END` compares numbers (log 13). -/
def execCAdd (s : State) : Outcome :=
  s.withByte s.idx.toNat fun b s' =>
    .next { s' with
      acc := csStep s.acc b
      idx := s.idx + 1
      phase := if s.idx.toNat + 1 < s.cfgR.csEnd.toNat then .cAdd else .cFin }

/-- `C_FIN` (R109). -/
def execCFin (s : State) : Outcome := .next { s with csum := complementLow s.acc, phase := .vCsum }

end Sys2Proof.Machine
end

