-- ==== Sys2Proof/Machine/Validator.lean ====
section
/-! DEFINITION. The frame validator (41_frame_validator.md): the function `decode` of R116 and the micro-operations
`V_LEN`, `V_SYNC`, `V_CID`, `V_CSUM`. -/

namespace Sys2Proof.Machine

/-- The checksum a frame should carry under a configuration (R79, R116 step 4). -/
def frameChecksum (cfg : Cfg) (frame : List Byte) : Byte := computeChecksum (byteAt frame 1) (spanBytes cfg frame)

/-- The fields of a frame that passed every check (R116 step 5). -/
def extractFields (cfg : Cfg) (frame : List Byte) : Decoded :=
  let s := byteAt frame cfg.statusOff.toNat
  { voltage := voltageDecode (byteAt frame cfg.voltHiOff.toNat) (byteAt frame cfg.voltLoOff.toNat)
    hasError := flagHasError cfg s
    voltFlag := flagVolt cfg s
    isSupported := flagIsSupported cfg s
    discharge := flagDischarge cfg s }

/-- `decode(cfg, frame)` (R116): the checks in their order, the first that fails ending the function (R117). Its domain
is the well-formed configurations (R115). -/
def decodeFrame (cfg : Cfg) (frame : List Byte) : Result :=
  if frame.length ≠ cfg.frameLen.toNat then .err (.lengthMismatch cfg.frameLen.toNat frame.length)
  else if byteAt frame 0 ≠ syncSentinel then .err (.badSync (byteAt frame 0))
  else if cfg.cidCheck = true ∧ byteAt frame 1 ≠ cfg.expectedCid then
    .err (.badCommandId cfg.expectedCid (byteAt frame 1))
  else if frameChecksum cfg frame ≠ byteAt frame (frame.length - 1) then
    .err (.checksumMismatch (frameChecksum cfg frame) (byteAt frame (frame.length - 1)))
  else .ok (extractFields cfg frame)

/-- A frame is well-formed for `cfg` (R127). -/
def frameWf (cfg : Cfg) (frame : List Byte) : Bool :=
  frame.length == cfg.frameLen.toNat && byteAt frame 0 == syncSentinel &&
    (!cfg.cidCheck || byteAt frame 1 == cfg.expectedCid) &&
    byteAt frame (frame.length - 1) == frameChecksum cfg frame

/-- `V_LEN` (R118). -/
def execVLen (s : State) : Outcome :=
  if s.lenR ≠ zext8 s.cfgR.frameLen then .next s.raiseLengthMismatch else .next (s.toPhase .vSync)

/-- `V_SYNC` (R119). -/
def execVSync (s : State) : Outcome :=
  s.withByte 0 fun b s' => if b ≠ syncSentinel then .next (s'.raiseBadSync b) else .next (s'.toPhase .vCid)

/-- `V_CID` (R120): offset 1 is read even when there is no check. -/
def execVCid (s : State) : Outcome :=
  s.withByte 1 fun b s' =>
    if s.cfgR.cidCheck = true ∧ b ≠ s.cfgR.expectedCid then .next (s'.raiseBadCommandId b)
    else .next (s'.toPhase .cInit)

/-- `V_CSUM` (R121). -/
def execVCsum (s : State) : Outcome :=
  s.withByte (lastOff s.cfgR) fun r s' =>
    if s.csum ≠ r then .next (s'.raiseChecksumMismatch r) else .next (s'.toPhase .xFlags)

end Sys2Proof.Machine
end

