-- ==== Sys2Proof/Machine/Extractor.lean ====
section
/-! DEFINITION. The micro-operations that extract the fields: `X_FLAGS` (42_bit_extractor.md R145) and `X_VOLT`
(43_voltage_decoder.md R156). -/

namespace Sys2Proof.Machine

/-- `X_FLAGS` (R145): the four flags of the status byte. -/
def execXFlags (s : State) : Outcome :=
  s.withByte s.cfgR.statusOff.toNat fun b s' =>
    .next { s' with
      hasError := flagHasError s.cfgR b
      voltFlag := flagVolt s.cfgR b
      isSupported := flagIsSupported s.cfgR b
      dischg := flagDischarge s.cfgR b
      phase := .xVolt }

/-- `X_VOLT` (R156): the voltage, and the successful end of the transaction. -/
def execXVolt (s : State) : Outcome := s.completeOk

end Sys2Proof.Machine
end

