-- ==== Sys2Proof/Machine/Sequencer.lean ====
section
/-! DEFINITION. The host command `START` and the hold `IDLE` (44_sequencer_and_host.md R165, R166), and how many steps
a transaction takes (R173). -/

namespace Sys2Proof.Machine

/-- `IDLE` (R166): "no register changes and no memory is read". -/
def execIdle (s : State) : Outcome := .next s

/-- `START` (R165): taken only in `IDLE`, ignored while busy (R226). A transaction whose configuration is ill-formed,
or whose `len` is not the true number of readable bytes, is refused (R9, R165, R222, 93 U8, U15; log 8). -/
def execStart (s : State) : Outcome :=
  if s.busy then .next s
  else if s.cfgPort.wf = false then .refused .illFormedConfig
  else if Memory.covers s.fb s.lenPort.toNat = false then .refused .bufferShorterThanLen
  else if Memory.endsBy s.fb s.lenPort.toNat = false then .refused .bufferLongerThanLen
  else .next s.latch

/-- Sequencer steps after the `START` step, by outcome (R173). -/
def stepCount (cfg : Cfg) : Result → Nat
  | .err (.lengthMismatch _ _) => 1
  | .err (.badSync _) => 2
  | .err (.badCommandId _ _) => 3
  | .err (.checksumMismatch _ _) => 6 + (cfg.csEnd.toNat - cfg.csFirst.toNat)
  | .ok _ => 8 + (cfg.csEnd.toNat - cfg.csFirst.toNat)

end Sys2Proof.Machine
end

