-- ==== Sys2Proof/Machine/Frames.lean ====
section
/-! DEFINITION. The frame rows `FRAME6`, `FRAME7` (30_encoding.md R71, R72): one whole frame presented and decoded, the
function view of a transaction (00_scope.md R6, 30_encoding.md R89 first row; log 11). -/

namespace Sys2Proof.Machine

/-- The checksum engine ran: every earlier check passed (R171). -/
def Result.reachesChecksum : Result → Bool
  | .err (.lengthMismatch _ _) => false
  | .err (.badSync _) => false
  | .err (.badCommandId _ _) => false
  | .err (.checksumMismatch _ _) => true
  | .ok _ => true

/-- What the checksum engine leaves in its registers after a whole span (R107 to R110): the accumulator, the end of
the span, and the complement. -/
def State.afterChecksum (s : State) (frame : List Byte) : State :=
  { s with
    acc := accumulate (byteAt frame 1) (spanBytes s.cfgR frame)
    idx := s.cfgR.csEnd
    csum := frameChecksum s.cfgR frame }

/-- A started transaction on this frame, run to its end in one go: the result registers are
`regs_of(decode(cfg, frame))` (R116, R176, R177). -/
def State.runTransaction (s : State) (frame : List Byte) : State :=
  let r := decodeFrame s.cfgR frame
  (if r.reachesChecksum then s.afterChecksum frame else s).report (regsOf r)

/-- The host presents a buffer (R88 `FRAME`), issues `START` and waits (R89). While a transaction runs the `START` is
ignored (R226), and the new bytes disturb it (R61). -/
def State.transact (s : State) (frame : List Byte) : Outcome :=
  if presentable frame = false then .refused .bufferTooLong
  else if s.busy then .next (s.present frame)
  else if s.cfgPort.wf = false then .refused .illFormedConfig
  else .next ((s.present frame).latch.runTransaction frame)

/-- `FRAME6` (R71). -/
def execFrame6 (cid status vhi vlo checksum : Byte) (s : State) : Outcome :=
  s.transact [syncSentinel, cid, status, vhi, vlo, checksum]

/-- `FRAME7` (R72). -/
def execFrame7 (cid status vhi vlo status2 checksum : Byte) (s : State) : Outcome :=
  s.transact [syncSentinel, cid, status, vhi, vlo, status2, checksum]

end Sys2Proof.Machine
end

