-- ==== Sys2Proof/Machine/Dispatch.lean ====
section
/-! DEFINITION. One arm per instruction: its meaning. -/

namespace Sys2Proof.Machine

def exec (i : Instr) (s : State) : Host.Outcome State Fault Refusal :=
  match i with
  | .idle => Sys2Proof.Machine.execIdle s
  | .vLen => Sys2Proof.Machine.execVLen s
  | .vSync => Sys2Proof.Machine.execVSync s
  | .vCid => Sys2Proof.Machine.execVCid s
  | .cInit => Sys2Proof.Machine.execCInit s
  | .cAdd => Sys2Proof.Machine.execCAdd s
  | .cFin => Sys2Proof.Machine.execCFin s
  | .vCsum => Sys2Proof.Machine.execVCsum s
  | .xFlags => Sys2Proof.Machine.execXFlags s
  | .xVolt => Sys2Proof.Machine.execXVolt s
  | .start => Sys2Proof.Machine.execStart s
  | .frame6 cid status vhi vlo checksum => Sys2Proof.Machine.execFrame6 cid status vhi vlo checksum s
  | .frame7 cid status vhi vlo status2 checksum => Sys2Proof.Machine.execFrame7 cid status vhi vlo status2 checksum s
  | .errNone => Sys2Proof.Machine.execErrNone s
  | .lengthMismatch => Sys2Proof.Machine.execLengthMismatch s
  | .badSync => Sys2Proof.Machine.execBadSync s
  | .badCommandId => Sys2Proof.Machine.execBadCommandId s
  | .checksumMismatch => Sys2Proof.Machine.execChecksumMismatch s

end Sys2Proof.Machine
end

