-- ==== Sys2Proof/Machine/HostInterface.lean ====
section
/-! DEFINITION. What one step does: the sequencer's micro-operation, or the next move of the host (00_scope.md R11,
44_sequencer_and_host.md R175), and the state in which a given instruction is the next to run. -/

namespace Sys2Proof.Machine

/-- Decode a word and run its instruction. -/
def runWord (w : Encoded) (s : State) : Outcome :=
  match decodeWord w with
  | .ok i => exec i s
  | .error e => .refused (.undecodable e)

/-- The sequencer step (R175 (b)): the micro-operation named by `PHASE`. In `IDLE` it is the hold (R166). -/
def runSequencer (s : State) : Outcome := runWord s.fetchWord s

/-- The pins of one step: "Reset has priority over `START` and over the sequencer step of the same moment" (R215). -/
def samplePins (rst start : Bool) (s : State) : Outcome :=
  if rst then .next s.resetPin
  else if start then runWord (.hostCmd 1) s
  else runSequencer s

/-- A whole frame: a frame row of the table where the bytes are one, and the same transaction where they are not, since
"there is no sequence on which the block's behaviour is undefined" (R81). -/
def runFrame (bytes : List Byte) (s : State) : Outcome :=
  match decodeWord (.frame bytes) with
  | .ok i => exec i s
  | .error _ => s.transact bytes

/-- One move of the host, already taken off the inbox. -/
def runMove (m : HostMove) (s : State) : Outcome :=
  match m with
  | .cfg c => .next { s with cfgPort := c }
  | .frame bytes => if presentable bytes then .next (s.present bytes) else .refused .bufferTooLong
  | .len n => .next { s with lenPort := n }
  | .poke off b => .next (s.hostWrites (Memory.write s.fb off.toNat b))
  | .pins rst start => samplePins rst start s
  | .wait => if s.resValid then .next s else runSequencer (s.withInbox (.wait :: s.inbox))
  | .transact bytes => runFrame bytes s

/-- One step: the next host move if one is pending, else the sequencer. -/
def runStep (s : State) : Outcome :=
  match s.inbox with
  | [] => runSequencer s
  | m :: rest => runMove m (s.withInbox rest)

/-! ## The state in which an instruction is the next to run (log 16) -/

/-- The byte at an offset, where one is listed, else 0: used only to prepare a state. -/
def Memory.readOr0 (m : Memory) (off : Nat) : Byte := (Memory.read m off).getD 0

/-- Every offset below `n` listed, a missing one as 0. -/
def Memory.fillBelow (m : Memory) : Nat → Memory
  | 0 => m
  | n + 1 =>
    let m' := Memory.fillBelow m n
    if (Memory.read m' n).isSome then m' else Memory.write m' n 0

/-- A presented buffer such as a transaction past `V_LEN` has: `LEN_R = FRAME_LEN`, every byte below it readable, left
alone by the host. -/
def State.withBuffer (s : State) : State :=
  { s with
    lenR := zext8 s.cfgR.frameLen
    fb := Memory.fillBelow s.fb s.cfgR.frameLen.toNat
    disturbed := false }

/-- The sequencer at a phase, with no host move pending. -/
def State.atPhase (s : State) (p : Phase) : State := { s with phase := p, inbox := [] }

/-- A byte other than the given one. -/
def otherByte (b : Byte) : Byte := b + 1

/-- The state in which the next step runs this instruction: the phase for a micro-operation, the pending host move for
`START` and the frame rows, and for an `ERR_CODE` the phase whose check reports it with the values that make it. -/
def State.readyFor (s : State) (i : Instr) : State :=
  match i with
  | .idle => s.atPhase .idle
  | .vLen => s.atPhase .vLen
  | .vSync => s.withBuffer.atPhase .vSync
  | .vCid => s.withBuffer.atPhase .vCid
  | .cInit => s.withBuffer.atPhase .cInit
  | .cAdd => s.withBuffer.atPhase .cAdd
  | .cFin => s.atPhase .cFin
  | .vCsum => s.withBuffer.atPhase .vCsum
  | .xFlags => s.withBuffer.atPhase .xFlags
  | .xVolt => s.withBuffer.atPhase .xVolt
  | .start => s.withInbox [.pins false true]
  | .frame6 c st h l k => s.withInbox [.transact [syncSentinel, c, st, h, l, k]]
  | .frame7 c st h l t k => s.withInbox [.transact [syncSentinel, c, st, h, l, t, k]]
  | .errNone => s.withBuffer.atPhase .xVolt
  | .lengthMismatch => { s.atPhase .vLen with lenR := otherByte (zext8 s.cfgR.frameLen) }
  | .badSync =>
    let s' := s.withBuffer.atPhase .vSync
    { s' with fb := Memory.write s'.fb 0 (otherByte syncSentinel) }
  | .badCommandId =>
    let s' := s.withBuffer.atPhase .vCid
    { s' with cfgR := { s'.cfgR with cidCheck := true, expectedCid := otherByte (Memory.readOr0 s'.fb 1) } }
  | .checksumMismatch =>
    let s' := s.withBuffer.atPhase .vCsum
    { s' with csum := otherByte (Memory.readOr0 s'.fb (lastOff s'.cfgR)) }

/-- The same for a word of the opcode table; a word the decoder rejects leaves the state alone. -/
def State.storeWord (s : State) (nbits w : Nat) : State :=
  match decodeTableWord nbits w with
  | some i => s.readyFor i
  | none => s

end Sys2Proof.Machine
end

