-- ==== Sys2Proof/Machine/Step.lean ====
section
/-! DEFINITION. The step, and the state in which a word of the opcode table runs next. -/

namespace Sys2Proof.Machine

/-- One step of the machine (R175). -/
def step : State → Host.Outcome State Fault Refusal := runStep

/-- The state whose next step runs the instruction of this word (log 16). -/
def State.withFetchWord (s : State) (nbits w : Nat) : State := s.storeWord nbits w

end Sys2Proof.Machine
end

