-- ==== Sys2Proof/Safety.lean ====
section
/-! DEFINITION. The terms claims use: the state an outcome answers, the invariants of a run, and the rows of the
transition table. -/

namespace Sys2Proof.Machine

/-- The next state an outcome answers, if it answers one. -/
def nextOf : Outcome → Option State
  | .next s => some s
  | .fault _ => none
  | .refused _ => none

/-- The outcome with a function applied to its next state. -/
def mapNext (f : State → State) : Outcome → Outcome
  | .next s => .next (f s)
  | .fault r => .fault r
  | .refused r => .refused r

/-- Some number of steps of the machine, stopping at a fault or a refusal. -/
abbrev runSteps (n : Nat) (s : State) : Outcome := Host.Core.run Sys2Proof.core n s

/-- The four flags a status byte gives. -/
def State.flags (s : State) : Bool × Bool × Bool × Bool := (s.hasError, s.voltFlag, s.isSupported, s.dischg)

/-- What every step keeps about the sequencer: the buffer is canonical; while a transaction runs there is no valid
result (R32), the configuration is well-formed (R9), the bytes below `LEN_R` are readable (R165) unless the host
disturbed them, and past `V_LEN` the length is the expected one (R59); `IDX` is in the span (R22) and `ACC` below 256
(R101) where they are used. -/
structure SeqInv (s : State) : Prop where
  canonical : Memory.wf s.fb = true
  noResultWhileBusy : s.phase ≠ .idle → s.resValid = false
  cfgWf : s.phase ≠ .idle → s.cfgR.wf = true
  readable : s.phase ≠ .idle → s.disturbed = true ∨ Memory.covers s.fb s.lenR.toNat = true
  length : s.phase ≠ .idle → s.phase ≠ .vLen → s.lenR = zext8 s.cfgR.frameLen
  idxInSpan : s.phase = .cAdd → s.cfgR.csFirst.toNat ≤ s.idx.toNat ∧ s.idx.toNat < s.cfgR.csEnd.toNat
  accIsByte : s.phase = .cAdd ∨ s.phase = .cFin → s.acc.toNat ≤ 255

/-- What every step keeps about the result registers: a valid result stands in `IDLE` only (R32, R166), and is either the
success of R156 or one of the four failures of R193, never both (R34, R192). -/
def ResultInv (s : State) : Prop :=
  s.resValid = true →
    s.phase = .idle ∧
    ((s.resOk = true ∧ s.errCode = 0#3 ∧ s.diag0 = 0#8 ∧ s.diag1 = 0#8) ∨
     (s.resOk = false ∧ (s.errCode = 1#3 ∨ s.errCode = 2#3 ∨ s.errCode = 3#3 ∨ s.errCode = 4#3) ∧
       s.voltage = 0#16 ∧ s.flags = (false, false, false, false)))

/-- `PHASE <- q` is a row of the transition table for phase `p` (R170), apart from its conditions. -/
def phaseRow (p q : Phase) : Bool :=
  match p with
  | .idle => q == .idle || q == .vLen
  | .vLen => q == .vSync || q == .idle
  | .vSync => q == .vCid || q == .idle
  | .vCid => q == .cInit || q == .idle
  | .cInit => q == .cAdd || q == .cFin
  | .cAdd => q == .cAdd || q == .cFin
  | .cFin => q == .vCsum
  | .vCsum => q == .xFlags || q == .idle
  | .xFlags => q == .xVolt
  | .xVolt => q == .idle

end Sys2Proof.Machine
end

