-- ==== Sys2Proof/WellFormed.lean ====
section
/-! DEFINITION. What is well-formed: an instruction, and a move of the host. The third check, `Cfg.wf` (R9), is in
Machine/CfgRules.lean. -/

namespace Sys2Proof

/-- Every value of every field of a row is an encoding: the patterns of R71 and R72 leave their letters open, and no
bit of a status byte, no secondary status byte and no checksum byte is shut out (R81, R82). -/
def Instr.wf : Instr → Bool
  | .idle => true
  | .vLen => true
  | .vSync => true
  | .vCid => true
  | .cInit => true
  | .cAdd => true
  | .cFin => true
  | .vCsum => true
  | .xFlags => true
  | .xVolt => true
  | .start => true
  | .frame6 _ _ _ _ _ => true
  | .frame7 _ _ _ _ _ _ => true
  | .errNone => true
  | .lengthMismatch => true
  | .badSync => true
  | .badCommandId => true
  | .checksumMismatch => true

/-- A host move the interface admits (R24, D21). The `cfg_*` ports can be driven with any value; whether a `START`
may sample it is `Cfg.wf`. -/
def Machine.HostMove.wf : Machine.HostMove → Bool
  | .cfg _ => true
  | .frame bytes => presentable bytes
  | .len _ => true
  | .poke _ _ => true
  | .pins _ _ => true
  | .wait => true
  | .transact bytes => presentable bytes

end Sys2Proof
end

