-- ==== Sys2Proof/Certificates/Slice0/Obligations.lean ====
section
/-! DEFINITION. The statements for the provers, from the numbered rules of spec/. Each docstring names the rule it
formalises; where a clause rests on a choice of the model, it names the log entry. -/

open Sys2Proof Sys2Proof.Machine

/-! ## Encodings -/

/-- 30_encoding.md section 1 and 2: words written out from the tables of R71, R72, R75 and R76, one or more of every
format. -/
def Obligations.SampleWordsDecodeAsTabled : Prop :=
  decodeWord (.phase4 0b0000#4) = .ok .idle ∧
  decodeWord (.phase4 0b0010#4) = .ok .vSync ∧
  decodeWord (.phase4 0b0101#4) = .ok .cAdd ∧
  decodeWord (.phase4 0b1001#4) = .ok .xVolt ∧
  decodeWord (.hostCmd 0b1#1) = .ok .start ∧
  decodeWord (.errCode3 0b100#3) = .ok .checksumMismatch ∧
  decodeWord (.frame [0b01010101#8, 0b10000001#8, 0b00000000#8, 0b10010110#8, 0b11111110#8, 0b11101000#8]) =
    .ok (.frame6 0x81#8 0x00#8 0x96#8 0xFE#8 0xE8#8) ∧
  decodeWord (.frame [0b01010101#8, 0b10000001#8, 0b01000000#8, 0b10010110#8, 0b11111110#8, 0b00000000#8,
      0b10101000#8]) =
    .ok (.frame7 0x81#8 0x40#8 0x96#8 0xFE#8 0x00#8 0xA8#8)

/-- The opcode table (R80): encoding an instruction and decoding the word gives it back, every operand at every value. -/
def Obligations.EncodedInstructionDecodesBack : Prop :=
  ∀ i : Instr, i.wf = true → decodeWord (encode i) = .ok i

/-- The other direction: each word has one reading, and no bit of it is dropped. -/
def Obligations.DecodedWordEncodesBack : Prop :=
  ∀ (w : Encoded) (i : Instr), decodeWord w = .ok i → encode i = w

/-- The reserved codes of R83 and R84, `start = 0`, and byte sequences that are neither frame pattern are rejected, each
under its own name. -/
def Obligations.OtherWordsAreRejected : Prop :=
  (∀ code : BitVec 4, 10 ≤ code.toNat → decodeWord (.phase4 code) = .error (.reservedPhase code)) ∧
  (∀ code : BitVec 3, 5 ≤ code.toNat → decodeWord (.errCode3 code) = .error (.reservedErrCode code)) ∧
  decodeWord (.hostCmd 0#1) = .error .noCommand ∧
  (∀ bytes : List Byte, bytes.length ≠ 6 → bytes.length ≠ 7 →
    decodeWord (.frame bytes) = .error (.notAFrameLength bytes.length)) ∧
  (∀ (sync : Byte) (bytes : List Byte), sync ≠ 0x55#8 → bytes.length = 5 ∨ bytes.length = 6 →
    decodeWord (.frame (sync :: bytes)) = .error (.notASyncByte sync))

/-- R70's numbering: position `8*i + (7-j)` of the bit string, counted from the left, is bit `j` of `frame[i]`; a
`FRAME6` word has 48 bits and a `FRAME7` word 56. -/
def Obligations.FrameBitsAreNumberedFromTheLeft : Prop :=
  (∀ (frame : List Byte) (i j : Nat) (b : Byte), frame[i]? = some b → j < 8 →
    (Encoded.frame frame).bits[8 * i + (7 - j)]? = some (b.getLsbD j)) ∧
  (∀ c st h l k : Byte, (encode (.frame6 c st h l k)).bits.length = 48) ∧
  (∀ c st h l t k : Byte, (encode (.frame7 c st h l t k)).bits.length = 56)

/-! ## The checksum engine's function -/

/-- R96, R97, R98: a sum of 256 or more loses 255, once; seed not folded, bytes in order, the complement of the low byte at the end; with no data it is `~seed`. -/
def Obligations.ChecksumFollowsTheAlgorithm : Prop :=
  (∀ a : BitVec 16, (fold a).toNat = if 256 ≤ a.toNat then a.toNat - 255 else a.toNat) ∧
  (∀ (acc : BitVec 16) (b : Byte), csStep acc b = fold (acc + b.setWidth 16)) ∧
  (∀ seed : Byte, computeChecksum seed [] = ~~~seed) ∧
  (∀ (seed b : Byte) (data : List Byte),
    accumulate seed [] = seed.setWidth 16 ∧
    accumulate seed (data ++ [b]) = csStep (accumulate seed data) b) ∧
  (∀ (seed : Byte) (data : List Byte),
    computeChecksum seed data = (~~~(accumulate seed data)).extractLsb' 0 8)

/-- The spec's own inferences R101 and R102 (40_checksum_engine.md section 2): the accumulator stays a byte, a fold leaves
at least 1, the carry out of bit 7 is added back at bit 0, and the result is `255 - acc`. -/
def Obligations.AccumulatorStaysAByte : Prop :=
  (∀ (acc : BitVec 16) (b : Byte), acc.toNat ≤ 255 →
    (csStep acc b).toNat ≤ 255 ∧ (256 ≤ acc.toNat + b.toNat → 1 ≤ (csStep acc b).toNat) ∧
    csStep acc b =
      ((acc + b.setWidth 16).extractLsb' 0 8).setWidth 16 + ((acc + b.setWidth 16).extractLsb' 8 1).setWidth 16) ∧
  (∀ (seed : Byte) (data : List Byte),
    (accumulate seed data).toNat ≤ 255 ∧
    (computeChecksum seed data).toNat = 255 - (accumulate seed data).toNat)

/-- The spec's own inference R103, "Closed form": `255` if the plain sum is 0, else `254 - ((S - 1) mod 255)`. -/
def Obligations.ChecksumHasTheClosedForm : Prop :=
  ∀ (seed : Byte) (data : List Byte),
    (computeChecksum seed data).toNat =
      if seed.toNat + (data.map BitVec.toNat).sum = 0 then 255
      else 254 - (seed.toNat + (data.map BitVec.toNat).sum - 1) % 255

/-- R104: each fold leaves the accumulator one above modulo-256 wraparound, so with any fold the result is not the
complement of the byte sum modulo 256; and the rule's example. -/
def Obligations.ChecksumIsNotModulo256 : Prop :=
  (∀ (seed : Byte) (data : List Byte),
    (accumulate seed data).toNat =
      (seed.toNat + (data.map BitVec.toNat).sum + foldCount (seed.setWidth 16) data) % 256) ∧
  (∀ (seed : Byte) (data : List Byte), data.length ≤ 255 → 0 < foldCount (seed.setWidth 16) data →
    (computeChecksum seed data).toNat ≠ 255 - (seed.toNat + (data.map BitVec.toNat).sum) % 256) ∧
  computeChecksum 0x81#8 [0x00#8, 0x96#8, 0xFE#8] = 0xE8#8

/-- The spec's own inference R105: when the result is `0xFF` and when it is `0x00`. -/
def Obligations.ChecksumExtremesAreCharacterised : Prop :=
  ∀ (seed : Byte) (data : List Byte),
    (computeChecksum seed data = 0xFF#8 ↔ seed = 0#8 ∧ ∀ b ∈ data, b = 0#8) ∧
    (computeChecksum seed data = 0x00#8 ↔
      0 < seed.toNat + (data.map BitVec.toNat).sum ∧ (seed.toNat + (data.map BitVec.toNat).sum) % 255 = 0)

/-- The spec's own inferences R103 and R106: the order of the data bytes does not matter, and non-zero sums congruent
modulo 255 give one checksum. -/
def Obligations.ChecksumMissesReorderingAndCongruentSums : Prop :=
  (∀ (seed : Byte) (d d' : List Byte), d.Perm d' → computeChecksum seed d = computeChecksum seed d') ∧
  (∀ (seed seed' : Byte) (d d' : List Byte),
    0 < seed.toNat + (d.map BitVec.toNat).sum → 0 < seed'.toNat + (d'.map BitVec.toNat).sum →
    (seed.toNat + (d.map BitVec.toNat).sum) % 255 = (seed'.toNat + (d'.map BitVec.toNat).sum) % 255 →
    computeChecksum seed d = computeChecksum seed' d')

/-! ## The bit extractor's and the voltage decoder's functions -/

/-- R140: `(s & m) != 0`; bit `k` for `m = 1 << k`; 0 for `m = 0`; and for a legal non-zero mask the two tests agree. -/
def Obligations.BitExtractIsTheMaskedBit : Prop :=
  ∀ s m : Byte,
    (bitExtract s m = true ↔ s &&& m ≠ 0#8) ∧
    (∀ k : Nat, k < 8 → bitExtract s (1#8 <<< k) = s.getLsbD k) ∧
    bitExtract s 0#8 = false ∧
    (maskOk m = true → m ≠ 0#8 → (s &&& m ≠ 0#8 ↔ s &&& m = m))

/-- R141 to R144: the four flags of a status byte, the support flag through its polarity. -/
def Obligations.FlagsFollowTheirMasks : Prop :=
  ∀ (cfg : Cfg) (s : Byte),
    (flagHasError cfg s = true ↔ s &&& cfg.maskError ≠ 0#8) ∧
    (flagVolt cfg s = true ↔ s &&& cfg.maskVolt ≠ 0#8) ∧
    (cfg.supportInv = false → (flagIsSupported cfg s = true ↔ s &&& cfg.maskSupport ≠ 0#8)) ∧
    (cfg.supportInv = true → (flagIsSupported cfg s = true ↔ s &&& cfg.maskSupport = 0#8)) ∧
    (cfg.maskSupport = 0#8 → flagIsSupported cfg s = cfg.supportInv) ∧
    (flagDischarge cfg s = true ↔ s &&& cfg.maskDischg ≠ 0#8)

/-- R155: `hi ## lo`, that is `256 * hi + lo`. -/
def Obligations.VoltageIsHighByteThenLow : Prop :=
  ∀ hi lo : Byte, voltageDecode hi lo = hi ++ lo ∧ (voltageDecode hi lo).toNat = 256 * hi.toNat + lo.toNat

/-! ## The function `decode` -/

/-- R81, R191: one error for a bad frame, that of the first failing check in the order length, sync, command id,
checksum, with the values the check compared. -/
def Obligations.FirstFailingCheckIsReported : Prop :=
  ∀ (cfg : Cfg) (f : List Byte),
    (f.length ≠ cfg.frameLen.toNat →
      decodeFrame cfg f = .err (.lengthMismatch cfg.frameLen.toNat f.length)) ∧
    (f.length = cfg.frameLen.toNat → byteAt f 0 ≠ 0x55#8 →
      decodeFrame cfg f = .err (.badSync (byteAt f 0))) ∧
    (f.length = cfg.frameLen.toNat → byteAt f 0 = 0x55#8 → cfg.cidCheck = true → byteAt f 1 ≠ cfg.expectedCid →
      decodeFrame cfg f = .err (.badCommandId cfg.expectedCid (byteAt f 1))) ∧
    (f.length = cfg.frameLen.toNat → byteAt f 0 = 0x55#8 → (cfg.cidCheck = true → byteAt f 1 = cfg.expectedCid) →
      computeChecksum (byteAt f 1) (spanBytes cfg f) ≠ byteAt f (f.length - 1) →
      decodeFrame cfg f =
        .err (.checksumMismatch (computeChecksum (byteAt f 1) (spanBytes cfg f)) (byteAt f (f.length - 1))))

/-- The spec's own inference R127: `decode` answers `Ok` exactly on the well-formed frames, and then with the fields of
R116 step 5. -/
def Obligations.DecodeAcceptsExactlyWellFormedFrames : Prop :=
  ∀ (cfg : Cfg) (f : List Byte) (d : Decoded),
    decodeFrame cfg f = .ok d ↔
      (f.length = cfg.frameLen.toNat ∧ byteAt f 0 = 0x55#8 ∧
        (cfg.cidCheck = false ∨ byteAt f 1 = cfg.expectedCid) ∧
        byteAt f (f.length - 1) = computeChecksum (byteAt f 1) (spanBytes cfg f) ∧
        d.voltage = byteAt f cfg.voltHiOff.toNat ++ byteAt f cfg.voltLoOff.toNat ∧
        d.hasError = bitExtract (byteAt f cfg.statusOff.toNat) cfg.maskError ∧
        d.voltFlag = bitExtract (byteAt f cfg.statusOff.toNat) cfg.maskVolt ∧
        d.isSupported = (bitExtract (byteAt f cfg.statusOff.toNat) cfg.maskSupport ^^ cfg.supportInv) ∧
        d.discharge = bitExtract (byteAt f cfg.statusOff.toNat) cfg.maskDischg)

/-- The spec's own inference R127: for every choice of the bytes before it (given sync and, if checked, command id)
exactly one checksum byte makes the frame well-formed. -/
def Obligations.ExactlyOneChecksumByteIsAccepted : Prop :=
  ∀ (cfg : Cfg) (body : List Byte), cfg.wf = true → body.length + 1 = cfg.frameLen.toNat → byteAt body 0 = 0x55#8 →
    (cfg.cidCheck = true → byteAt body 1 = cfg.expectedCid) →
    ∃! k : Byte, ∃ d : Decoded, decodeFrame cfg (body ++ [k]) = .ok d

/-! ## Configuration -/

/-- R9: what a well-formed configuration is, and that `START` with another is refused. -/
def Obligations.IllFormedConfigurationIsRefused : Prop :=
  (∀ c : Cfg, c.wf = true ↔
    (c.frameLen.toNat = 6 ∨ c.frameLen.toNat = 7) ∧
    (2 ≤ c.csFirst.toNat ∧ c.csFirst.toNat ≤ c.csEnd.toNat ∧ c.csEnd.toNat ≤ c.frameLen.toNat - 1) ∧
    (2 ≤ c.statusOff.toNat ∧ c.statusOff.toNat ≤ c.frameLen.toNat - 2) ∧
    (2 ≤ c.voltHiOff.toNat ∧ c.voltHiOff.toNat ≤ c.frameLen.toNat - 2) ∧
    (2 ≤ c.voltLoOff.toNat ∧ c.voltLoOff.toNat ≤ c.frameLen.toNat - 2) ∧
    (∀ m ∈ [c.maskError, c.maskVolt, c.maskSupport, c.maskDischg], m = 0#8 ∨ ∃ k : Nat, k < 8 ∧ m = 1#8 <<< k)) ∧
  (∀ s : State, s.phase = .idle → s.cfgPort.wf = false → exec .start s = .refused .illFormedConfig)

/-! ## Reading the buffer -/

/-- R50 and R57: below `LEN_R` a read gives the byte at that offset and changes nothing. Where the host has disturbed the
buffer, the model's choice (log 6): a free value, one more drawn. At or past `LEN_R`, and where no byte was presented,
the model's choice (log 7): a fault. -/
def Obligations.ReadGivesTheByteBelowLength : Prop :=
  ∀ (s : State) (off : Nat),
    (off < s.lenR.toNat → s.disturbed = false → ∀ b : Byte, Memory.read s.fb off = some b →
      s.memRead off = .ok b ∧ s.noteRead = s) ∧
    (off < s.lenR.toNat → s.disturbed = true →
      s.memRead off = .ok (Config.freeValue 8 s.draws) ∧ s.noteRead = { s with draws := s.draws + 1 }) ∧
    (s.lenR.toNat ≤ off → s.memRead off = .error (.offsetBeyondLen off)) ∧
    (off < s.lenR.toNat → s.disturbed = false → Memory.read s.fb off = none →
      s.memRead off = .error (.byteNotPresented off))

/-- The buffer holds the presented frame and nothing else: `frame[i]` at offset `i` (R50), and the host's write of one
byte leaves every other alone. The whole-buffer replacement is log 9. -/
def Obligations.PresentedFrameIsWhatIsRead : Prop :=
  (∀ (s : State) (bytes : List Byte) (i : Nat), Memory.read (s.present bytes).fb i = bytes[i]?) ∧
  (∀ (m : Memory) (off off' : Nat) (b : Byte),
    Memory.read (Memory.write m off b) off = some b ∧
    (off' ≠ off → Memory.read (Memory.write m off b) off' = Memory.read m off'))

/-! ## Micro-operations: result, frame and completion -/

/-- R193: what `fail` writes; it "changes nothing else". -/
def Obligations.FailRecordsTheError : Prop :=
  ∀ (s : State) (code : BitVec 3) (d0 d1 : Byte),
    s.fail code d0 d1 =
      { s with
        errCode := code, diag0 := d0, diag1 := d1, resOk := false, voltage := 0#16, hasError := false,
        voltFlag := false, isSupported := false, dischg := false, resValid := true, phase := .idle }

/-- R118: `V_LEN` passes to `V_SYNC` when the lengths are equal and fails with `LengthMismatch` otherwise; no read. -/
def Obligations.VLenComparesTheLengths : Prop :=
  decodeWord (.phase4 0b0001#4) = .ok .vLen ∧
  ∀ s : State,
    (s.lenR = s.cfgR.frameLen.setWidth 8 → exec .vLen s = .next { s with phase := .vSync }) ∧
    (s.lenR ≠ s.cfgR.frameLen.setWidth 8 →
      exec .vLen s = .next (s.fail 1#3 (s.cfgR.frameLen.setWidth 8) s.lenR))

/-- R119: `V_SYNC`. -/
def Obligations.VSyncChecksTheSyncByte : Prop :=
  decodeWord (.phase4 0b0010#4) = .ok .vSync ∧
  ∀ (s : State) (b : Byte), s.memRead 0 = .ok b →
    (b = 0x55#8 → exec .vSync s = .next { s.noteRead with phase := .vCid }) ∧
    (b ≠ 0x55#8 → exec .vSync s = .next (s.noteRead.fail 2#3 0x55#8 b))

/-- R120: `V_CID`. -/
def Obligations.VCidChecksTheCommandId : Prop :=
  decodeWord (.phase4 0b0011#4) = .ok .vCid ∧
  ∀ (s : State) (b : Byte), s.memRead 1 = .ok b →
    (s.cfgR.cidCheck = false ∨ b = s.cfgR.expectedCid →
      exec .vCid s = .next { s.noteRead with phase := .cInit }) ∧
    (s.cfgR.cidCheck = true → b ≠ s.cfgR.expectedCid →
      exec .vCid s = .next (s.noteRead.fail 3#3 s.cfgR.expectedCid b))

/-- R107: `C_INIT`. -/
def Obligations.CInitSeedsTheAccumulator : Prop :=
  decodeWord (.phase4 0b0100#4) = .ok .cInit ∧
  ∀ (s : State) (b : Byte), s.memRead 1 = .ok b →
    (s.cfgR.csFirst < s.cfgR.csEnd →
      exec .cInit s = .next { s.noteRead with acc := b.setWidth 16, idx := s.cfgR.csFirst, phase := .cAdd }) ∧
    (¬ s.cfgR.csFirst < s.cfgR.csEnd →
      exec .cInit s = .next { s.noteRead with acc := b.setWidth 16, idx := s.cfgR.csFirst, phase := .cFin })

/-- R108: `C_ADD`. Where `IDX + 1` would not fit three bits, a case no run reaches, the comparison of numbers is the
model's choice (log 13). -/
def Obligations.CAddFoldsOneByte : Prop :=
  decodeWord (.phase4 0b0101#4) = .ok .cAdd ∧
  ∀ (s : State) (b : Byte), s.memRead s.idx.toNat = .ok b →
    (s.idx.toNat + 1 < s.cfgR.csEnd.toNat →
      exec .cAdd s =
        .next { s.noteRead with acc := fold (s.acc + b.setWidth 16), idx := s.idx + 1, phase := .cAdd }) ∧
    (s.cfgR.csEnd.toNat ≤ s.idx.toNat + 1 →
      exec .cAdd s =
        .next { s.noteRead with acc := fold (s.acc + b.setWidth 16), idx := s.idx + 1, phase := .cFin })

/-- R109: `C_FIN`. -/
def Obligations.CFinComplementsTheLowByte : Prop :=
  decodeWord (.phase4 0b0110#4) = .ok .cFin ∧
  ∀ s : State, exec .cFin s = .next { s with csum := (~~~s.acc).extractLsb' 0 8, phase := .vCsum }

/-- R121: `V_CSUM`. `FRAME_LEN - 1` at `FRAME_LEN = 0`, a case no run reaches, is the model's choice (log 13). -/
def Obligations.VCsumComparesTheChecksums : Prop :=
  decodeWord (.phase4 0b0111#4) = .ok .vCsum ∧
  ∀ (s : State) (r : Byte), s.memRead (s.cfgR.frameLen.toNat - 1) = .ok r →
    (s.csum = r → exec .vCsum s = .next { s.noteRead with phase := .xFlags }) ∧
    (s.csum ≠ r → exec .vCsum s = .next (s.noteRead.fail 4#3 s.csum r))

/-- R145: `X_FLAGS`. -/
def Obligations.XFlagsExtractsFourFlags : Prop :=
  decodeWord (.phase4 0b1000#4) = .ok .xFlags ∧
  ∀ (s : State) (b : Byte), s.memRead s.cfgR.statusOff.toNat = .ok b →
    exec .xFlags s =
      .next { s.noteRead with
        hasError := bitExtract b s.cfgR.maskError
        voltFlag := bitExtract b s.cfgR.maskVolt
        isSupported := bitExtract b s.cfgR.maskSupport ^^ s.cfgR.supportInv
        dischg := bitExtract b s.cfgR.maskDischg
        phase := .xVolt }

/-- R156: `X_VOLT`. -/
def Obligations.XVoltCompletesTheTransaction : Prop :=
  decodeWord (.phase4 0b1001#4) = .ok .xVolt ∧
  ∀ (s : State) (hi lo : Byte), s.memRead s.cfgR.voltHiOff.toNat = .ok hi →
    s.noteRead.memRead s.cfgR.voltLoOff.toNat = .ok lo →
    exec .xVolt s =
      .next { s.noteRead.noteRead with
        voltage := hi ++ lo, resOk := true, errCode := 0#3, diag0 := 0x00#8, diag1 := 0x00#8, resValid := true,
        phase := .idle }

/-- R166: `IDLE` changes no register and reads nothing. -/
def Obligations.IdleHolds : Prop :=
  decodeWord (.phase4 0b0000#4) = .ok .idle ∧
  ∀ s : State, exec .idle s = .next s ∧ (s.phase = .idle → s.inbox = [] → step s = .next s ∧ s.reads = [])

/-- R165: `START` taken in `IDLE`, with `len` the true number of readable bytes (R222; log 8), samples `cfg_*` and `len`,
clears `RES_VALID` and begins at `V_LEN`; while busy it has no effect (R226). The `disturbed` bookkeeping is the model's
own (log 3), and so is the last clause: a step with the start pin high while busy takes that move of the host's list (log
5) and no sequencer step (log 24). -/
def Obligations.StartSamplesThePorts : Prop :=
  decodeWord (.hostCmd 0b1#1) = .ok .start ∧
  (∀ s : State, s.phase = .idle → s.cfgPort.wf = true →
    (∀ off : Nat, Memory.read s.fb off ≠ none ↔ off < s.lenPort.toNat) →
    exec .start s =
      .next { s with
        cfgR := s.cfgPort, lenR := s.lenPort, resValid := false, phase := .vLen, disturbed := false }) ∧
  (∀ s : State, s.phase ≠ .idle → exec .start s = .next s) ∧
  (∀ (s : State) (rest : List HostMove), s.phase ≠ .idle → s.inbox = .pins false true :: rest →
    step s = .next (s.withInbox rest))

/-- The model's reading (log 8) of R165's precondition, R222 and 93 U15: a `START` in `IDLE` under a well-formed
configuration is refused when `len` is not the true number of readable bytes: some byte below `len` is not readable, or
all are and one at or past `len` is readable too. -/
def Obligations.StartWithAnUntrueLengthIsRefused : Prop :=
  ∀ (s : State) (off : Nat), s.phase = .idle → s.cfgPort.wf = true →
    (off < s.lenPort.toNat → Memory.read s.fb off = none → exec .start s = .refused .bufferShorterThanLen) ∧
    ((∀ i : Nat, i < s.lenPort.toNat → Memory.read s.fb i ≠ none) → s.lenPort.toNat ≤ off →
      Memory.read s.fb off ≠ none → exec .start s = .refused .bufferLongerThanLen)

/-- The rows of format `ERRCODE3` (60_exceptions.md section 1): each failure records its code and payload through
`fail`, and `ERR_NONE`, whose row names R156, reports the success. That a row is an instruction of its own is the
model's choice (log 12). -/
def Obligations.ErrorRowsRecordTheirPayloads : Prop :=
  (∀ (s : State) (hi lo : Byte), s.memRead s.cfgR.voltHiOff.toNat = .ok hi →
    s.noteRead.memRead s.cfgR.voltLoOff.toNat = .ok lo →
    exec .errNone s =
      .next { s.noteRead.noteRead with
        voltage := hi ++ lo, resOk := true, errCode := 0#3, diag0 := 0x00#8, diag1 := 0x00#8, resValid := true,
        phase := .idle }) ∧
  (∀ s : State, exec .lengthMismatch s = .next (s.fail 1#3 (s.cfgR.frameLen.setWidth 8) s.lenR)) ∧
  (∀ (s : State) (b : Byte), s.memRead 0 = .ok b →
    exec .badSync s = .next (s.noteRead.fail 2#3 0x55#8 b)) ∧
  (∀ (s : State) (b : Byte), s.memRead 1 = .ok b →
    exec .badCommandId s = .next (s.noteRead.fail 3#3 s.cfgR.expectedCid b)) ∧
  (∀ (s : State) (r : Byte), s.memRead (s.cfgR.frameLen.toNat - 1) = .ok r →
    exec .checksumMismatch s = .next (s.noteRead.fail 4#3 s.csum r))

/-- The model's choice (log 7), where R50 defines no read: an instruction whose read faults stops with that fault and
does nothing else. No state with `SeqInv` gets there (`NoReadIsOutOfBounds`). -/
def Obligations.FaultingReadStopsTheInstruction : Prop :=
  ∀ (s : State) (f : Fault),
    (s.memRead 0 = .error f → ∀ i ∈ [Instr.vSync, Instr.badSync], exec i s = .fault f) ∧
    (s.memRead 1 = .error f → ∀ i ∈ [Instr.vCid, Instr.cInit, Instr.badCommandId], exec i s = .fault f) ∧
    (s.memRead s.idx.toNat = .error f → exec .cAdd s = .fault f) ∧
    (s.memRead (s.cfgR.frameLen.toNat - 1) = .error f →
      ∀ i ∈ [Instr.vCsum, Instr.checksumMismatch], exec i s = .fault f) ∧
    (s.memRead s.cfgR.statusOff.toNat = .error f → exec .xFlags s = .fault f) ∧
    (∀ i ∈ [Instr.xVolt, Instr.errNone],
      (s.memRead s.cfgR.voltHiOff.toNat = .error f → exec i s = .fault f) ∧
      (∀ hi : Byte, s.memRead s.cfgR.voltHiOff.toNat = .ok hi →
        s.noteRead.memRead s.cfgR.voltLoOff.toNat = .error f → exec i s = .fault f))

/-- R186 to R189: an error is raised by its own micro-operation only, exactly for its cause, with its payload; so a
failing check does what the row of its error does. -/
def Obligations.EachErrorComesFromItsOwnCheck : Prop :=
  ∀ s t : State, s.inbox = [] → s.resValid = false → step s = .next t → t.resValid = true →
    (t.errCode = 1#3 →
      s.phase = .vLen ∧ s.lenR ≠ s.cfgR.frameLen.setWidth 8 ∧ t.diag0 = s.cfgR.frameLen.setWidth 8 ∧
      t.diag1 = s.lenR ∧ exec .lengthMismatch s = .next t) ∧
    (t.errCode = 2#3 →
      s.phase = .vSync ∧ s.memRead 0 = .ok t.diag1 ∧ t.diag1 ≠ 0x55#8 ∧ t.diag0 = 0x55#8 ∧
      exec .badSync s = .next t) ∧
    (t.errCode = 3#3 →
      s.phase = .vCid ∧ s.memRead 1 = .ok t.diag1 ∧ s.cfgR.cidCheck = true ∧ t.diag1 ≠ s.cfgR.expectedCid ∧
      t.diag0 = s.cfgR.expectedCid ∧ exec .badCommandId s = .next t) ∧
    (t.errCode = 4#3 →
      s.phase = .vCsum ∧ s.memRead (s.cfgR.frameLen.toNat - 1) = .ok t.diag1 ∧ s.csum ≠ t.diag1 ∧
      t.diag0 = s.csum ∧ exec .checksumMismatch s = .next t) ∧
    (t.resOk = true ∧ t.errCode = 0#3 ∧ s.phase = .xVolt ∨
      t.resOk = false ∧ (t.errCode = 1#3 ∨ t.errCode = 2#3 ∨ t.errCode = 3#3 ∨ t.errCode = 4#3))

/-! ## Frames -/

/-- `FRAME6` on an idle block with a well-formed configuration: the transaction of R116 and R177 in one go, and its frame
(log 11): the ports but for `len`, the moves to come and the count of free values keep what they held; `ACC`, `IDX` and
`CSUM` change only if the checksum was reached. -/
def Obligations.SixByteFrameIsDecoded : Prop :=
  ∀ (s : State) (c st h l k : Byte), s.phase = .idle → s.cfgPort.wf = true →
    ∃ t : State, exec (.frame6 c st h l k) s = .next t ∧
      t.phase = .idle ∧ t.resValid = true ∧
      t.resultRegs = regsOf (decodeFrame s.cfgPort [0x55#8, c, st, h, l, k]) ∧
      t.cfgR = s.cfgPort ∧ t.lenR = 6#8 ∧ t.lenPort = 6#8 ∧ t.cfgPort = s.cfgPort ∧ t.inbox = s.inbox ∧
      t.draws = s.draws ∧ t.disturbed = false ∧
      (∀ i : Nat, Memory.read t.fb i = [0x55#8, c, st, h, l, k][i]?) ∧
      ((decodeFrame s.cfgPort [0x55#8, c, st, h, l, k]).reachesChecksum = false →
        t.acc = s.acc ∧ t.idx = s.idx ∧ t.csum = s.csum) ∧
      ((decodeFrame s.cfgPort [0x55#8, c, st, h, l, k]).reachesChecksum = true →
        t.acc = accumulate c (spanBytes s.cfgPort [0x55#8, c, st, h, l, k]) ∧ t.idx = s.cfgPort.csEnd ∧
        t.csum = computeChecksum c (spanBytes s.cfgPort [0x55#8, c, st, h, l, k]))

/-- `FRAME7`, the same (log 11). -/
def Obligations.SevenByteFrameIsDecoded : Prop :=
  ∀ (s : State) (c st h l u k : Byte), s.phase = .idle → s.cfgPort.wf = true →
    ∃ t : State, exec (.frame7 c st h l u k) s = .next t ∧
      t.phase = .idle ∧ t.resValid = true ∧
      t.resultRegs = regsOf (decodeFrame s.cfgPort [0x55#8, c, st, h, l, u, k]) ∧
      t.cfgR = s.cfgPort ∧ t.lenR = 7#8 ∧ t.lenPort = 7#8 ∧ t.cfgPort = s.cfgPort ∧ t.inbox = s.inbox ∧
      t.draws = s.draws ∧ t.disturbed = false ∧
      (∀ i : Nat, Memory.read t.fb i = [0x55#8, c, st, h, l, u, k][i]?) ∧
      ((decodeFrame s.cfgPort [0x55#8, c, st, h, l, u, k]).reachesChecksum = false →
        t.acc = s.acc ∧ t.idx = s.idx ∧ t.csum = s.csum) ∧
      ((decodeFrame s.cfgPort [0x55#8, c, st, h, l, u, k]).reachesChecksum = true →
        t.acc = accumulate c (spanBytes s.cfgPort [0x55#8, c, st, h, l, u, k]) ∧ t.idx = s.cfgPort.csEnd ∧
        t.csum = computeChecksum c (spanBytes s.cfgPort [0x55#8, c, st, h, l, u, k]))

/-- R71 and R72, under the layout the source gives: a frame with the right sync, command id and checksum is accepted; its
voltage is `vhi ## vlo` and its flags are those of `status`, whatever the secondary status byte. -/
def Obligations.DefaultLayoutFramesAreAccepted : Prop :=
  ∀ (s : State) (c st h l u : Byte), s.phase = .idle → s.cfgPort.wf = true →
    (s.cfgPort.cidCheck = true → c = s.cfgPort.expectedCid) →
    s.cfgPort.csFirst = 2 → s.cfgPort.statusOff = 2 → s.cfgPort.voltHiOff = 3 → s.cfgPort.voltLoOff = 4 →
    (s.cfgPort.frameLen = 6 → s.cfgPort.csEnd = 5 →
      ∃ t : State, exec (.frame6 c st h l (computeChecksum c [st, h, l])) s = .next t ∧
        t.resValid = true ∧ t.resOk = true ∧ t.errCode = 0#3 ∧ t.voltage = h ++ l ∧
        t.hasError = bitExtract st s.cfgPort.maskError ∧ t.voltFlag = bitExtract st s.cfgPort.maskVolt ∧
        t.isSupported = (bitExtract st s.cfgPort.maskSupport ^^ s.cfgPort.supportInv) ∧
        t.dischg = bitExtract st s.cfgPort.maskDischg) ∧
    (s.cfgPort.frameLen = 7 → s.cfgPort.csEnd = 6 →
      ∃ t : State, exec (.frame7 c st h l u (computeChecksum c [st, h, l, u])) s = .next t ∧
        t.resValid = true ∧ t.resOk = true ∧ t.errCode = 0#3 ∧ t.voltage = h ++ l ∧
        t.hasError = bitExtract st s.cfgPort.maskError ∧ t.voltFlag = bitExtract st s.cfgPort.maskVolt ∧
        t.isSupported = (bitExtract st s.cfgPort.maskSupport ^^ s.cfgPort.supportInv) ∧
        t.dischg = bitExtract st s.cfgPort.maskDischg)

/-- The model's choice (log 11): a frame presented while a transaction runs changes no register; `START` being ignored
(R226), only the host's buffer and `len` port are the new ones. On an idle block with an ill-formed configuration the
transaction is refused, as `START` is (R9). -/
def Obligations.FrameWhileBusyOrIllFormedDecodesNothing : Prop :=
  ∀ (s : State) (c st h l u k : Byte),
    (s.phase ≠ .idle →
      (∃ d : Bool, exec (.frame6 c st h l k) s =
        .next { s with fb := Memory.ofBytes [0x55#8, c, st, h, l, k], lenPort := 6#8, disturbed := d }) ∧
      (∃ d : Bool, exec (.frame7 c st h l u k) s =
        .next { s with fb := Memory.ofBytes [0x55#8, c, st, h, l, u, k], lenPort := 7#8, disturbed := d })) ∧
    (s.phase = .idle → s.cfgPort.wf = false →
      exec (.frame6 c st h l k) s = .refused .illFormedConfig ∧
      exec (.frame7 c st h l u k) s = .refused .illFormedConfig)

/-! ## The step -/

/-- A step runs the decoded instruction: the word `PHASE` selects when no host move is pending (R25), the `start` pin
(R165), and a whole frame (log 11), each on the state with the move taken off. A wait lets the sequencer step until there
is a result (R168, log 17). -/
def Obligations.StepRunsTheDecodedInstruction : Prop :=
  (∀ (s : State) (i : Instr), s.inbox = [] → decodeWord s.fetchWord = .ok i → step s = exec i s) ∧
  (∀ s : State, ∃ i : Instr, decodeWord s.fetchWord = .ok i) ∧
  (∀ (s : State) (rest : List HostMove), s.inbox = .pins false true :: rest →
    step s = exec .start (s.withInbox rest)) ∧
  (∀ (s : State) (rest : List HostMove) (i : Instr), s.inbox = .pins false false :: rest →
    decodeWord s.fetchWord = .ok i → step s = exec i (s.withInbox rest)) ∧
  (∀ (s : State) (rest : List HostMove) (bytes : List Byte) (i : Instr), s.inbox = .transact bytes :: rest →
    decodeWord (.frame bytes) = .ok i → step s = exec i (s.withInbox rest)) ∧
  (∀ (s : State) (rest : List HostMove), s.inbox = .wait :: rest → s.resValid = true →
    step s = .next (s.withInbox rest)) ∧
  (∀ (s : State) (rest : List HostMove) (i : Instr), s.inbox = .wait :: rest → s.resValid = false →
    decodeWord s.fetchWord = .ok i → step s = exec i s)

/-- R215: with `rst` asserted, whatever `start` is and whatever phase, `PHASE` is `IDLE` and `RES_VALID` 0 afterwards.
The other registers are unspecified, and nothing is said of them. The buffer and ports are as before (R216). -/
def Obligations.ResetPinWinsOverStart : Prop :=
  ∀ (s : State) (start : Bool) (rest : List HostMove), s.inbox = .pins true start :: rest →
    ∃ t : State, step s = .next t ∧ t.phase = .idle ∧ t.resValid = false ∧
      t.fb = s.fb ∧ t.cfgPort = s.cfgPort ∧ t.lenPort = s.lenPort ∧ t.inbox = rest

/-- R224: driving `cfg_*` or `len`, or presenting a frame, changes no register of the block, in any phase. More than 255
bytes are refused (log 10). -/
def Obligations.PortMovesChangeNoRegister : Prop :=
  ∀ (s : State) (rest : List HostMove),
    (∀ c : Cfg, s.inbox = .cfg c :: rest → step s = .next { s with inbox := rest, cfgPort := c }) ∧
    (∀ n : BitVec 8, s.inbox = .len n :: rest → step s = .next { s with inbox := rest, lenPort := n }) ∧
    (∀ bytes : List Byte, s.inbox = .frame bytes :: rest → bytes.length ≤ 255 →
      ∃ d : Bool, (s.phase = .idle → d = s.disturbed) ∧ step s =
        .next { s with
          inbox := rest, fb := Memory.ofBytes bytes, lenPort := BitVec.ofNat 8 bytes.length, disturbed := d }) ∧
    (∀ bytes : List Byte, s.inbox = .frame bytes :: rest ∨ s.inbox = .transact bytes :: rest → 255 < bytes.length →
      step s = .refused .bufferTooLong) ∧
    (∀ (off b : BitVec 8), s.inbox = .poke off b :: rest →
      ∃ d : Bool, (s.phase = .idle → d = s.disturbed) ∧ step s =
        .next { s with inbox := rest, fb := Memory.write s.fb off.toNat b, disturbed := d })

/-- The model's choice (log 6), the alternative R61 and R223 allow: a byte below `LEN_R` changed by the host while busy
makes the later reads of the transaction free values; a write that changes none of them does not. -/
def Obligations.BufferChangeWhileBusyFreesTheReads : Prop :=
  ∀ (s : State) (off b : BitVec 8) (rest : List HostMove) (t : State),
    s.phase ≠ .idle → s.inbox = .poke off b :: rest → step s = .next t →
    (off.toNat < s.lenR.toNat → Memory.read s.fb off.toNat ≠ some b → t.disturbed = true) ∧
    (s.lenR.toNat ≤ off.toNat ∨ Memory.read s.fb off.toNat = some b → t.disturbed = s.disturbed)

/-! ## Invariants and whole-machine rules -/

/-- After reset: the two registers whose reset value the spec gives (R42), and both invariants. -/
def Obligations.ResetStateIsIdleAndMeetsTheInvariants : Prop :=
  State.reset.phase = .idle ∧ State.reset.resValid = false ∧ SeqInv State.reset ∧ ResultInv State.reset

/-- The invariant of the sequencer (R9, R22, R32, R59, R101): every step keeps it, from every state that has it. -/
def Obligations.StepKeepsSequencerInvariant : Prop :=
  ∀ s t : State, SeqInv s → step s = .next t → SeqInv t

/-- R192 (the spec's own inference), R34, R193: a valid result stands in `IDLE`, is a success or one of the four
failures, and every step keeps that. -/
def Obligations.StepKeepsResultInvariant : Prop :=
  ∀ s t : State, ResultInv s → step s = .next t → ResultInv t

/-- The spec's own inference R59 with R190's "There is no memory fault": from a state with the invariant no step faults,
and no offset read is at or past `LEN_R`. -/
def Obligations.NoReadIsOutOfBounds : Prop :=
  ∀ s : State, SeqInv s →
    (∀ f : Fault, step s ≠ .fault f) ∧ (∀ off ∈ s.reads, off < s.lenR.toNat) ∧
    (s.inbox = [] → ∃ t : State, step s = .next t)

/-- R51: no operation of the block writes the buffer; only presenting a frame, which is the host's doing, does. Nor does
one touch the ports or the moves to come. -/
def Obligations.BlockNeverWritesTheBuffer : Prop :=
  ∀ (i : Instr) (s t : State), exec i s = .next t →
    (∀ c st h l k : Byte, i ≠ .frame6 c st h l k) → (∀ c st h l u k : Byte, i ≠ .frame7 c st h l u k) →
    t.fb = s.fb ∧ t.cfgPort = s.cfgPort ∧ t.lenPort = s.lenPort ∧ t.inbox = s.inbox

/-- R170 and the spec's own inference R174: `PHASE` is written only along the rows of the transition table. -/
def Obligations.PhaseFollowsTheTransitionTable : Prop :=
  (∀ s t : State, s.inbox = [] → step s = .next t →
    phaseRow s.phase t.phase = true ∧ (s.phase = .idle → t.phase = .idle)) ∧
  (∀ s t : State, exec .start s = .next t → s.phase = .idle → t.phase = .vLen)

/-- The spec's own inference R44: the only writers of the flags are `X_FLAGS` and `fail`, and the flags decide nothing:
a step from the same state with other flags does the same to everything else. -/
def Obligations.FlagsHaveTwoWritersAndNoReader : Prop :=
  (∀ s t : State, s.inbox = [] → step s = .next t → t.flags ≠ s.flags →
    s.phase = .xFlags ∨ (t.resOk = false ∧ t.resValid = true ∧ t.flags = (false, false, false, false))) ∧
  (∀ (s t : State) (e v p d : Bool), s.inbox = [] → step s = .next t →
    ∃ t' : State, step { s with hasError := e, voltFlag := v, isSupported := p, dischg := d } = .next t' ∧
      { t' with hasError := t.hasError, voltFlag := t.voltFlag, isSupported := t.isSupported, dischg := t.dischg } = t)

/-- R63: the ports are read by no sequencer step: a step under other `cfg_*` and `len` values is the same step. -/
def Obligations.PortsAreSampledOnlyByStart : Prop :=
  ∀ (s : State) (c : Cfg) (n : BitVec 8), s.inbox = [] →
    step { s with cfgPort := c, lenPort := n } = mapNext (fun t => { t with cfgPort := c, lenPort := n }) (step s)

/-- R56: a sequencer step depends on the buffer only at the offsets listed for its micro-operation, in any buffer. -/
def Obligations.StepReadsOnlyTheListedOffsets : Prop :=
  ∀ (s : State) (fb : Memory), s.inbox = [] → (∀ off ∈ s.reads, Memory.read fb off = Memory.read s.fb off) →
    step { s with fb := fb } = mapNext (fun t => { t with fb := fb }) (step s)

/-- The spec's own inference R110: from `C_INIT` the checksum phases end, after `1 + (CS_END - CS_FIRST) + 1` steps, at
`V_CSUM` with the checksum of the frame, and nothing else changed. -/
def Obligations.ChecksumPhasesComputeTheChecksum : Prop :=
  ∀ (s : State) (frame : List Byte), s.inbox = [] → s.phase = .cInit → s.disturbed = false → s.cfgR.wf = true →
    frame.length = s.cfgR.frameLen.toNat → s.lenR.toNat = frame.length →
    (∀ i : Nat, i < frame.length → Memory.read s.fb i = frame[i]?) →
    runSteps (2 + (s.cfgR.csEnd.toNat - s.cfgR.csFirst.toNat)) s =
      .next { s with
        acc := accumulate (byteAt frame 1) (spanBytes s.cfgR frame)
        idx := s.cfgR.csEnd
        csum := computeChecksum (byteAt frame 1) (spanBytes s.cfgR frame)
        phase := .vCsum }

/-- The spec's own inference R176, agreement of the views: `START` and the sequencer's steps, as many as R173 says, reach
the very state of the function view, whose result registers are `regs_of(decode(cfg, frame))`. -/
def Obligations.SequencerAgreesWithDecode : Prop :=
  ∀ (s : State) (frame : List Byte), s.phase = .idle → s.cfgPort.wf = true → frame.length ≤ 255 →
    ∃ t : State,
      runSteps (1 + stepCount s.cfgPort (decodeFrame s.cfgPort frame))
        ((s.present frame).withInbox [.pins false true]) = .next t ∧
      t.phase = .idle ∧ t.resValid = true ∧ t.resultRegs = regsOf (decodeFrame s.cfgPort frame) ∧
      (s.withInbox []).transact frame = .next t

/-- The spec's own inference R173, its lower bound: the transaction is still running, without a result, after every
smaller number of steps. That it ends at the count is in `SequencerAgreesWithDecode`. -/
def Obligations.TransactionDoesNotEndBeforeItsStepCount : Prop :=
  ∀ (s : State) (frame : List Byte) (k : Nat), s.phase = .idle → s.cfgPort.wf = true → frame.length ≤ 255 →
    k < stepCount s.cfgPort (decodeFrame s.cfgPort frame) →
    ∃ t : State, runSteps (1 + k) ((s.present frame).withInbox [.pins false true]) = .next t ∧
      t.phase ≠ .idle ∧ t.resValid = false

/-- R232 with R173's bound: from every running state with the invariant, left to itself, the transaction ends with a
result within 12 steps, whatever the bytes read. -/
def Obligations.EveryTransactionEnds : Prop :=
  ∀ s : State, SeqInv s → s.inbox = [] → s.phase ≠ .idle →
    ∃ (n : Nat) (t : State), n ≤ 12 ∧ runSteps n s = .next t ∧ t.phase = .idle ∧ t.resValid = true

/-- The spec's own inference R40, and R126: what a transaction answers depends on the ports and the buffer alone, not on
what any register held before. -/
def Obligations.ResultDoesNotDependOnOldRegisters : Prop :=
  ∀ (s s' t t' : State) (n : Nat), s.phase = .idle → s'.phase = .idle →
    s.inbox = [.pins false true] → s'.inbox = [.pins false true] →
    s'.cfgPort = s.cfgPort → s'.lenPort = s.lenPort → s'.fb = s.fb →
    runSteps (1 + n) s = .next t → runSteps (1 + n) s' = .next t' →
    t'.phase = t.phase ∧ t'.resValid = t.resValid ∧ t'.readResult = t.readResult

/-! ## Reading the result -/

/-- R32, R225 and R167: no result while `RES_VALID` is 0; after a transaction the host reads the very value of
`decode`. -/
def Obligations.HostReadsTheDecodedResult : Prop :=
  (∀ s : State, s.resValid = false → s.readResult = none) ∧
  (∀ (s t : State) (frame : List Byte), s.phase = .idle → s.transact frame = .next t →
    t.readResult = some (decodeFrame s.cfgPort frame))

/-- R177: "The map is injective on results", on the results of buffers that can be presented; an `actual` above 255 has
no register image (D21; log 25). -/
def Obligations.RegistersDetermineTheResult : Prop :=
  ∀ (c c' : Cfg) (f f' : List Byte), f.length ≤ 255 → f'.length ≤ 255 →
    regsOf (decodeFrame c f) = regsOf (decodeFrame c' f') → decodeFrame c f = decodeFrame c' f'
end

