-- ==== Sys2Proof/Laws/State.lean ====
section
/-! SUPPORT. For every update of State, what each field is afterwards: one lemma per field and update, true by rfl. Of
the reset pin only the fields it specifies or leaves alone: the others are free values (log 4). -/

namespace Sys2Proof.Machine

variable (s : State)

@[simp] theorem State.toPhase_phase (p : Phase) : (s.toPhase p).phase = p := rfl
@[simp] theorem State.toPhase_idx (p : Phase) : (s.toPhase p).idx = s.idx := rfl
@[simp] theorem State.toPhase_acc (p : Phase) : (s.toPhase p).acc = s.acc := rfl
@[simp] theorem State.toPhase_csum (p : Phase) : (s.toPhase p).csum = s.csum := rfl
@[simp] theorem State.toPhase_lenR (p : Phase) : (s.toPhase p).lenR = s.lenR := rfl
@[simp] theorem State.toPhase_cfgR (p : Phase) : (s.toPhase p).cfgR = s.cfgR := rfl
@[simp] theorem State.toPhase_resValid (p : Phase) : (s.toPhase p).resValid = s.resValid := rfl
@[simp] theorem State.toPhase_resOk (p : Phase) : (s.toPhase p).resOk = s.resOk := rfl
@[simp] theorem State.toPhase_errCode (p : Phase) : (s.toPhase p).errCode = s.errCode := rfl
@[simp] theorem State.toPhase_diag0 (p : Phase) : (s.toPhase p).diag0 = s.diag0 := rfl
@[simp] theorem State.toPhase_diag1 (p : Phase) : (s.toPhase p).diag1 = s.diag1 := rfl
@[simp] theorem State.toPhase_voltage (p : Phase) : (s.toPhase p).voltage = s.voltage := rfl
@[simp] theorem State.toPhase_hasError (p : Phase) : (s.toPhase p).hasError = s.hasError := rfl
@[simp] theorem State.toPhase_voltFlag (p : Phase) : (s.toPhase p).voltFlag = s.voltFlag := rfl
@[simp] theorem State.toPhase_isSupported (p : Phase) : (s.toPhase p).isSupported = s.isSupported := rfl
@[simp] theorem State.toPhase_dischg (p : Phase) : (s.toPhase p).dischg = s.dischg := rfl
@[simp] theorem State.toPhase_cfgPort (p : Phase) : (s.toPhase p).cfgPort = s.cfgPort := rfl
@[simp] theorem State.toPhase_lenPort (p : Phase) : (s.toPhase p).lenPort = s.lenPort := rfl
@[simp] theorem State.toPhase_fb (p : Phase) : (s.toPhase p).fb = s.fb := rfl
@[simp] theorem State.toPhase_inbox (p : Phase) : (s.toPhase p).inbox = s.inbox := rfl
@[simp] theorem State.toPhase_disturbed (p : Phase) : (s.toPhase p).disturbed = s.disturbed := rfl
@[simp] theorem State.toPhase_draws (p : Phase) : (s.toPhase p).draws = s.draws := rfl

@[simp] theorem State.withInbox_phase (moves : List HostMove) : (s.withInbox moves).phase = s.phase := rfl
@[simp] theorem State.withInbox_idx (moves : List HostMove) : (s.withInbox moves).idx = s.idx := rfl
@[simp] theorem State.withInbox_acc (moves : List HostMove) : (s.withInbox moves).acc = s.acc := rfl
@[simp] theorem State.withInbox_csum (moves : List HostMove) : (s.withInbox moves).csum = s.csum := rfl
@[simp] theorem State.withInbox_lenR (moves : List HostMove) : (s.withInbox moves).lenR = s.lenR := rfl
@[simp] theorem State.withInbox_cfgR (moves : List HostMove) : (s.withInbox moves).cfgR = s.cfgR := rfl
@[simp] theorem State.withInbox_resValid (moves : List HostMove) : (s.withInbox moves).resValid = s.resValid := rfl
@[simp] theorem State.withInbox_resOk (moves : List HostMove) : (s.withInbox moves).resOk = s.resOk := rfl
@[simp] theorem State.withInbox_errCode (moves : List HostMove) : (s.withInbox moves).errCode = s.errCode := rfl
@[simp] theorem State.withInbox_diag0 (moves : List HostMove) : (s.withInbox moves).diag0 = s.diag0 := rfl
@[simp] theorem State.withInbox_diag1 (moves : List HostMove) : (s.withInbox moves).diag1 = s.diag1 := rfl
@[simp] theorem State.withInbox_voltage (moves : List HostMove) : (s.withInbox moves).voltage = s.voltage := rfl
@[simp] theorem State.withInbox_hasError (moves : List HostMove) : (s.withInbox moves).hasError = s.hasError := rfl
@[simp] theorem State.withInbox_voltFlag (moves : List HostMove) : (s.withInbox moves).voltFlag = s.voltFlag := rfl
@[simp] theorem State.withInbox_isSupported (moves : List HostMove) : (s.withInbox moves).isSupported = s.isSupported := rfl
@[simp] theorem State.withInbox_dischg (moves : List HostMove) : (s.withInbox moves).dischg = s.dischg := rfl
@[simp] theorem State.withInbox_cfgPort (moves : List HostMove) : (s.withInbox moves).cfgPort = s.cfgPort := rfl
@[simp] theorem State.withInbox_lenPort (moves : List HostMove) : (s.withInbox moves).lenPort = s.lenPort := rfl
@[simp] theorem State.withInbox_fb (moves : List HostMove) : (s.withInbox moves).fb = s.fb := rfl
@[simp] theorem State.withInbox_inbox (moves : List HostMove) : (s.withInbox moves).inbox = moves := rfl
@[simp] theorem State.withInbox_disturbed (moves : List HostMove) : (s.withInbox moves).disturbed = s.disturbed := rfl
@[simp] theorem State.withInbox_draws (moves : List HostMove) : (s.withInbox moves).draws = s.draws := rfl

@[simp] theorem State.noteRead_phase : s.noteRead.phase = s.phase := rfl
@[simp] theorem State.noteRead_idx : s.noteRead.idx = s.idx := rfl
@[simp] theorem State.noteRead_acc : s.noteRead.acc = s.acc := rfl
@[simp] theorem State.noteRead_csum : s.noteRead.csum = s.csum := rfl
@[simp] theorem State.noteRead_lenR : s.noteRead.lenR = s.lenR := rfl
@[simp] theorem State.noteRead_cfgR : s.noteRead.cfgR = s.cfgR := rfl
@[simp] theorem State.noteRead_resValid : s.noteRead.resValid = s.resValid := rfl
@[simp] theorem State.noteRead_resOk : s.noteRead.resOk = s.resOk := rfl
@[simp] theorem State.noteRead_errCode : s.noteRead.errCode = s.errCode := rfl
@[simp] theorem State.noteRead_diag0 : s.noteRead.diag0 = s.diag0 := rfl
@[simp] theorem State.noteRead_diag1 : s.noteRead.diag1 = s.diag1 := rfl
@[simp] theorem State.noteRead_voltage : s.noteRead.voltage = s.voltage := rfl
@[simp] theorem State.noteRead_hasError : s.noteRead.hasError = s.hasError := rfl
@[simp] theorem State.noteRead_voltFlag : s.noteRead.voltFlag = s.voltFlag := rfl
@[simp] theorem State.noteRead_isSupported : s.noteRead.isSupported = s.isSupported := rfl
@[simp] theorem State.noteRead_dischg : s.noteRead.dischg = s.dischg := rfl
@[simp] theorem State.noteRead_cfgPort : s.noteRead.cfgPort = s.cfgPort := rfl
@[simp] theorem State.noteRead_lenPort : s.noteRead.lenPort = s.lenPort := rfl
@[simp] theorem State.noteRead_fb : s.noteRead.fb = s.fb := rfl
@[simp] theorem State.noteRead_inbox : s.noteRead.inbox = s.inbox := rfl
@[simp] theorem State.noteRead_disturbed : s.noteRead.disturbed = s.disturbed := rfl
@[simp] theorem State.noteRead_draws : s.noteRead.draws = if s.disturbed then s.draws + 1 else s.draws := rfl

@[simp] theorem State.fail_phase (code : BitVec 3) (d0 d1 : Byte) : (s.fail code d0 d1).phase = .idle := rfl
@[simp] theorem State.fail_idx (code : BitVec 3) (d0 d1 : Byte) : (s.fail code d0 d1).idx = s.idx := rfl
@[simp] theorem State.fail_acc (code : BitVec 3) (d0 d1 : Byte) : (s.fail code d0 d1).acc = s.acc := rfl
@[simp] theorem State.fail_csum (code : BitVec 3) (d0 d1 : Byte) : (s.fail code d0 d1).csum = s.csum := rfl
@[simp] theorem State.fail_lenR (code : BitVec 3) (d0 d1 : Byte) : (s.fail code d0 d1).lenR = s.lenR := rfl
@[simp] theorem State.fail_cfgR (code : BitVec 3) (d0 d1 : Byte) : (s.fail code d0 d1).cfgR = s.cfgR := rfl
@[simp] theorem State.fail_resValid (code : BitVec 3) (d0 d1 : Byte) : (s.fail code d0 d1).resValid = true := rfl
@[simp] theorem State.fail_resOk (code : BitVec 3) (d0 d1 : Byte) : (s.fail code d0 d1).resOk = false := rfl
@[simp] theorem State.fail_errCode (code : BitVec 3) (d0 d1 : Byte) : (s.fail code d0 d1).errCode = code := rfl
@[simp] theorem State.fail_diag0 (code : BitVec 3) (d0 d1 : Byte) : (s.fail code d0 d1).diag0 = d0 := rfl
@[simp] theorem State.fail_diag1 (code : BitVec 3) (d0 d1 : Byte) : (s.fail code d0 d1).diag1 = d1 := rfl
@[simp] theorem State.fail_voltage (code : BitVec 3) (d0 d1 : Byte) : (s.fail code d0 d1).voltage = 0x0000 := rfl
@[simp] theorem State.fail_hasError (code : BitVec 3) (d0 d1 : Byte) : (s.fail code d0 d1).hasError = false := rfl
@[simp] theorem State.fail_voltFlag (code : BitVec 3) (d0 d1 : Byte) : (s.fail code d0 d1).voltFlag = false := rfl
@[simp] theorem State.fail_isSupported (code : BitVec 3) (d0 d1 : Byte) : (s.fail code d0 d1).isSupported = false := rfl
@[simp] theorem State.fail_dischg (code : BitVec 3) (d0 d1 : Byte) : (s.fail code d0 d1).dischg = false := rfl
@[simp] theorem State.fail_cfgPort (code : BitVec 3) (d0 d1 : Byte) : (s.fail code d0 d1).cfgPort = s.cfgPort := rfl
@[simp] theorem State.fail_lenPort (code : BitVec 3) (d0 d1 : Byte) : (s.fail code d0 d1).lenPort = s.lenPort := rfl
@[simp] theorem State.fail_fb (code : BitVec 3) (d0 d1 : Byte) : (s.fail code d0 d1).fb = s.fb := rfl
@[simp] theorem State.fail_inbox (code : BitVec 3) (d0 d1 : Byte) : (s.fail code d0 d1).inbox = s.inbox := rfl
@[simp] theorem State.fail_disturbed (code : BitVec 3) (d0 d1 : Byte) : (s.fail code d0 d1).disturbed = s.disturbed := rfl
@[simp] theorem State.fail_draws (code : BitVec 3) (d0 d1 : Byte) : (s.fail code d0 d1).draws = s.draws := rfl

@[simp] theorem State.succeed_phase (v : BitVec 16) : (s.succeed v).phase = .idle := rfl
@[simp] theorem State.succeed_idx (v : BitVec 16) : (s.succeed v).idx = s.idx := rfl
@[simp] theorem State.succeed_acc (v : BitVec 16) : (s.succeed v).acc = s.acc := rfl
@[simp] theorem State.succeed_csum (v : BitVec 16) : (s.succeed v).csum = s.csum := rfl
@[simp] theorem State.succeed_lenR (v : BitVec 16) : (s.succeed v).lenR = s.lenR := rfl
@[simp] theorem State.succeed_cfgR (v : BitVec 16) : (s.succeed v).cfgR = s.cfgR := rfl
@[simp] theorem State.succeed_resValid (v : BitVec 16) : (s.succeed v).resValid = true := rfl
@[simp] theorem State.succeed_resOk (v : BitVec 16) : (s.succeed v).resOk = true := rfl
@[simp] theorem State.succeed_errCode (v : BitVec 16) : (s.succeed v).errCode = 0 := rfl
@[simp] theorem State.succeed_diag0 (v : BitVec 16) : (s.succeed v).diag0 = 0x00 := rfl
@[simp] theorem State.succeed_diag1 (v : BitVec 16) : (s.succeed v).diag1 = 0x00 := rfl
@[simp] theorem State.succeed_voltage (v : BitVec 16) : (s.succeed v).voltage = v := rfl
@[simp] theorem State.succeed_hasError (v : BitVec 16) : (s.succeed v).hasError = s.hasError := rfl
@[simp] theorem State.succeed_voltFlag (v : BitVec 16) : (s.succeed v).voltFlag = s.voltFlag := rfl
@[simp] theorem State.succeed_isSupported (v : BitVec 16) : (s.succeed v).isSupported = s.isSupported := rfl
@[simp] theorem State.succeed_dischg (v : BitVec 16) : (s.succeed v).dischg = s.dischg := rfl
@[simp] theorem State.succeed_cfgPort (v : BitVec 16) : (s.succeed v).cfgPort = s.cfgPort := rfl
@[simp] theorem State.succeed_lenPort (v : BitVec 16) : (s.succeed v).lenPort = s.lenPort := rfl
@[simp] theorem State.succeed_fb (v : BitVec 16) : (s.succeed v).fb = s.fb := rfl
@[simp] theorem State.succeed_inbox (v : BitVec 16) : (s.succeed v).inbox = s.inbox := rfl
@[simp] theorem State.succeed_disturbed (v : BitVec 16) : (s.succeed v).disturbed = s.disturbed := rfl
@[simp] theorem State.succeed_draws (v : BitVec 16) : (s.succeed v).draws = s.draws := rfl

@[simp] theorem State.latch_phase : s.latch.phase = .vLen := rfl
@[simp] theorem State.latch_idx : s.latch.idx = s.idx := rfl
@[simp] theorem State.latch_acc : s.latch.acc = s.acc := rfl
@[simp] theorem State.latch_csum : s.latch.csum = s.csum := rfl
@[simp] theorem State.latch_lenR : s.latch.lenR = s.lenPort := rfl
@[simp] theorem State.latch_cfgR : s.latch.cfgR = s.cfgPort := rfl
@[simp] theorem State.latch_resValid : s.latch.resValid = false := rfl
@[simp] theorem State.latch_resOk : s.latch.resOk = s.resOk := rfl
@[simp] theorem State.latch_errCode : s.latch.errCode = s.errCode := rfl
@[simp] theorem State.latch_diag0 : s.latch.diag0 = s.diag0 := rfl
@[simp] theorem State.latch_diag1 : s.latch.diag1 = s.diag1 := rfl
@[simp] theorem State.latch_voltage : s.latch.voltage = s.voltage := rfl
@[simp] theorem State.latch_hasError : s.latch.hasError = s.hasError := rfl
@[simp] theorem State.latch_voltFlag : s.latch.voltFlag = s.voltFlag := rfl
@[simp] theorem State.latch_isSupported : s.latch.isSupported = s.isSupported := rfl
@[simp] theorem State.latch_dischg : s.latch.dischg = s.dischg := rfl
@[simp] theorem State.latch_cfgPort : s.latch.cfgPort = s.cfgPort := rfl
@[simp] theorem State.latch_lenPort : s.latch.lenPort = s.lenPort := rfl
@[simp] theorem State.latch_fb : s.latch.fb = s.fb := rfl
@[simp] theorem State.latch_inbox : s.latch.inbox = s.inbox := rfl
@[simp] theorem State.latch_disturbed : s.latch.disturbed = false := rfl
@[simp] theorem State.latch_draws : s.latch.draws = s.draws := rfl

@[simp] theorem State.hostWrites_phase (m : Memory) : (s.hostWrites m).phase = s.phase := rfl
@[simp] theorem State.hostWrites_idx (m : Memory) : (s.hostWrites m).idx = s.idx := rfl
@[simp] theorem State.hostWrites_acc (m : Memory) : (s.hostWrites m).acc = s.acc := rfl
@[simp] theorem State.hostWrites_csum (m : Memory) : (s.hostWrites m).csum = s.csum := rfl
@[simp] theorem State.hostWrites_lenR (m : Memory) : (s.hostWrites m).lenR = s.lenR := rfl
@[simp] theorem State.hostWrites_cfgR (m : Memory) : (s.hostWrites m).cfgR = s.cfgR := rfl
@[simp] theorem State.hostWrites_resValid (m : Memory) : (s.hostWrites m).resValid = s.resValid := rfl
@[simp] theorem State.hostWrites_resOk (m : Memory) : (s.hostWrites m).resOk = s.resOk := rfl
@[simp] theorem State.hostWrites_errCode (m : Memory) : (s.hostWrites m).errCode = s.errCode := rfl
@[simp] theorem State.hostWrites_diag0 (m : Memory) : (s.hostWrites m).diag0 = s.diag0 := rfl
@[simp] theorem State.hostWrites_diag1 (m : Memory) : (s.hostWrites m).diag1 = s.diag1 := rfl
@[simp] theorem State.hostWrites_voltage (m : Memory) : (s.hostWrites m).voltage = s.voltage := rfl
@[simp] theorem State.hostWrites_hasError (m : Memory) : (s.hostWrites m).hasError = s.hasError := rfl
@[simp] theorem State.hostWrites_voltFlag (m : Memory) : (s.hostWrites m).voltFlag = s.voltFlag := rfl
@[simp] theorem State.hostWrites_isSupported (m : Memory) : (s.hostWrites m).isSupported = s.isSupported := rfl
@[simp] theorem State.hostWrites_dischg (m : Memory) : (s.hostWrites m).dischg = s.dischg := rfl
@[simp] theorem State.hostWrites_cfgPort (m : Memory) : (s.hostWrites m).cfgPort = s.cfgPort := rfl
@[simp] theorem State.hostWrites_lenPort (m : Memory) : (s.hostWrites m).lenPort = s.lenPort := rfl
@[simp] theorem State.hostWrites_fb (m : Memory) : (s.hostWrites m).fb = m := rfl
@[simp] theorem State.hostWrites_inbox (m : Memory) : (s.hostWrites m).inbox = s.inbox := rfl
@[simp] theorem State.hostWrites_disturbed (m : Memory) : (s.hostWrites m).disturbed = (s.disturbed || (s.busy && !(Memory.agreeBelow s.fb m s.lenR.toNat))) := rfl
@[simp] theorem State.hostWrites_draws (m : Memory) : (s.hostWrites m).draws = s.draws := rfl

@[simp] theorem State.present_phase (bytes : List Byte) : (s.present bytes).phase = s.phase := rfl
@[simp] theorem State.present_idx (bytes : List Byte) : (s.present bytes).idx = s.idx := rfl
@[simp] theorem State.present_acc (bytes : List Byte) : (s.present bytes).acc = s.acc := rfl
@[simp] theorem State.present_csum (bytes : List Byte) : (s.present bytes).csum = s.csum := rfl
@[simp] theorem State.present_lenR (bytes : List Byte) : (s.present bytes).lenR = s.lenR := rfl
@[simp] theorem State.present_cfgR (bytes : List Byte) : (s.present bytes).cfgR = s.cfgR := rfl
@[simp] theorem State.present_resValid (bytes : List Byte) : (s.present bytes).resValid = s.resValid := rfl
@[simp] theorem State.present_resOk (bytes : List Byte) : (s.present bytes).resOk = s.resOk := rfl
@[simp] theorem State.present_errCode (bytes : List Byte) : (s.present bytes).errCode = s.errCode := rfl
@[simp] theorem State.present_diag0 (bytes : List Byte) : (s.present bytes).diag0 = s.diag0 := rfl
@[simp] theorem State.present_diag1 (bytes : List Byte) : (s.present bytes).diag1 = s.diag1 := rfl
@[simp] theorem State.present_voltage (bytes : List Byte) : (s.present bytes).voltage = s.voltage := rfl
@[simp] theorem State.present_hasError (bytes : List Byte) : (s.present bytes).hasError = s.hasError := rfl
@[simp] theorem State.present_voltFlag (bytes : List Byte) : (s.present bytes).voltFlag = s.voltFlag := rfl
@[simp] theorem State.present_isSupported (bytes : List Byte) : (s.present bytes).isSupported = s.isSupported := rfl
@[simp] theorem State.present_dischg (bytes : List Byte) : (s.present bytes).dischg = s.dischg := rfl
@[simp] theorem State.present_cfgPort (bytes : List Byte) : (s.present bytes).cfgPort = s.cfgPort := rfl
@[simp] theorem State.present_lenPort (bytes : List Byte) : (s.present bytes).lenPort = BitVec.ofNat 8 bytes.length := rfl
@[simp] theorem State.present_fb (bytes : List Byte) : (s.present bytes).fb = Memory.ofBytes bytes := rfl
@[simp] theorem State.present_inbox (bytes : List Byte) : (s.present bytes).inbox = s.inbox := rfl
@[simp] theorem State.present_disturbed (bytes : List Byte) : (s.present bytes).disturbed = (s.disturbed || (s.busy && !(Memory.agreeBelow s.fb (Memory.ofBytes bytes) s.lenR.toNat))) := rfl
@[simp] theorem State.present_draws (bytes : List Byte) : (s.present bytes).draws = s.draws := rfl

@[simp] theorem State.report_phase (r : ResultRegs) : (s.report r).phase = .idle := rfl
@[simp] theorem State.report_idx (r : ResultRegs) : (s.report r).idx = s.idx := rfl
@[simp] theorem State.report_acc (r : ResultRegs) : (s.report r).acc = s.acc := rfl
@[simp] theorem State.report_csum (r : ResultRegs) : (s.report r).csum = s.csum := rfl
@[simp] theorem State.report_lenR (r : ResultRegs) : (s.report r).lenR = s.lenR := rfl
@[simp] theorem State.report_cfgR (r : ResultRegs) : (s.report r).cfgR = s.cfgR := rfl
@[simp] theorem State.report_resValid (r : ResultRegs) : (s.report r).resValid = true := rfl
@[simp] theorem State.report_resOk (r : ResultRegs) : (s.report r).resOk = r.resOk := rfl
@[simp] theorem State.report_errCode (r : ResultRegs) : (s.report r).errCode = r.errCode := rfl
@[simp] theorem State.report_diag0 (r : ResultRegs) : (s.report r).diag0 = r.diag0 := rfl
@[simp] theorem State.report_diag1 (r : ResultRegs) : (s.report r).diag1 = r.diag1 := rfl
@[simp] theorem State.report_voltage (r : ResultRegs) : (s.report r).voltage = r.voltage := rfl
@[simp] theorem State.report_hasError (r : ResultRegs) : (s.report r).hasError = r.hasError := rfl
@[simp] theorem State.report_voltFlag (r : ResultRegs) : (s.report r).voltFlag = r.voltFlag := rfl
@[simp] theorem State.report_isSupported (r : ResultRegs) : (s.report r).isSupported = r.isSupported := rfl
@[simp] theorem State.report_dischg (r : ResultRegs) : (s.report r).dischg = r.dischg := rfl
@[simp] theorem State.report_cfgPort (r : ResultRegs) : (s.report r).cfgPort = s.cfgPort := rfl
@[simp] theorem State.report_lenPort (r : ResultRegs) : (s.report r).lenPort = s.lenPort := rfl
@[simp] theorem State.report_fb (r : ResultRegs) : (s.report r).fb = s.fb := rfl
@[simp] theorem State.report_inbox (r : ResultRegs) : (s.report r).inbox = s.inbox := rfl
@[simp] theorem State.report_disturbed (r : ResultRegs) : (s.report r).disturbed = s.disturbed := rfl
@[simp] theorem State.report_draws (r : ResultRegs) : (s.report r).draws = s.draws := rfl

@[simp] theorem State.afterChecksum_phase (frame : List Byte) : (s.afterChecksum frame).phase = s.phase := rfl
@[simp] theorem State.afterChecksum_idx (frame : List Byte) : (s.afterChecksum frame).idx = s.cfgR.csEnd := rfl
@[simp] theorem State.afterChecksum_acc (frame : List Byte) : (s.afterChecksum frame).acc = accumulate (byteAt frame 1) (spanBytes s.cfgR frame) := rfl
@[simp] theorem State.afterChecksum_csum (frame : List Byte) : (s.afterChecksum frame).csum = frameChecksum s.cfgR frame := rfl
@[simp] theorem State.afterChecksum_lenR (frame : List Byte) : (s.afterChecksum frame).lenR = s.lenR := rfl
@[simp] theorem State.afterChecksum_cfgR (frame : List Byte) : (s.afterChecksum frame).cfgR = s.cfgR := rfl
@[simp] theorem State.afterChecksum_resValid (frame : List Byte) : (s.afterChecksum frame).resValid = s.resValid := rfl
@[simp] theorem State.afterChecksum_resOk (frame : List Byte) : (s.afterChecksum frame).resOk = s.resOk := rfl
@[simp] theorem State.afterChecksum_errCode (frame : List Byte) : (s.afterChecksum frame).errCode = s.errCode := rfl
@[simp] theorem State.afterChecksum_diag0 (frame : List Byte) : (s.afterChecksum frame).diag0 = s.diag0 := rfl
@[simp] theorem State.afterChecksum_diag1 (frame : List Byte) : (s.afterChecksum frame).diag1 = s.diag1 := rfl
@[simp] theorem State.afterChecksum_voltage (frame : List Byte) : (s.afterChecksum frame).voltage = s.voltage := rfl
@[simp] theorem State.afterChecksum_hasError (frame : List Byte) : (s.afterChecksum frame).hasError = s.hasError := rfl
@[simp] theorem State.afterChecksum_voltFlag (frame : List Byte) : (s.afterChecksum frame).voltFlag = s.voltFlag := rfl
@[simp] theorem State.afterChecksum_isSupported (frame : List Byte) : (s.afterChecksum frame).isSupported = s.isSupported := rfl
@[simp] theorem State.afterChecksum_dischg (frame : List Byte) : (s.afterChecksum frame).dischg = s.dischg := rfl
@[simp] theorem State.afterChecksum_cfgPort (frame : List Byte) : (s.afterChecksum frame).cfgPort = s.cfgPort := rfl
@[simp] theorem State.afterChecksum_lenPort (frame : List Byte) : (s.afterChecksum frame).lenPort = s.lenPort := rfl
@[simp] theorem State.afterChecksum_fb (frame : List Byte) : (s.afterChecksum frame).fb = s.fb := rfl
@[simp] theorem State.afterChecksum_inbox (frame : List Byte) : (s.afterChecksum frame).inbox = s.inbox := rfl
@[simp] theorem State.afterChecksum_disturbed (frame : List Byte) : (s.afterChecksum frame).disturbed = s.disturbed := rfl
@[simp] theorem State.afterChecksum_draws (frame : List Byte) : (s.afterChecksum frame).draws = s.draws := rfl

@[simp] theorem State.resetPin_phase : s.resetPin.phase = .idle := rfl
@[simp] theorem State.resetPin_resValid : s.resetPin.resValid = false := rfl
@[simp] theorem State.resetPin_cfgPort : s.resetPin.cfgPort = s.cfgPort := rfl
@[simp] theorem State.resetPin_lenPort : s.resetPin.lenPort = s.lenPort := rfl
@[simp] theorem State.resetPin_fb : s.resetPin.fb = s.fb := rfl
@[simp] theorem State.resetPin_inbox : s.resetPin.inbox = s.inbox := rfl
@[simp] theorem State.resetPin_disturbed : s.resetPin.disturbed = false := rfl
@[simp] theorem State.resetPin_draws : s.resetPin.draws = s.draws + 26 := rfl

end Sys2Proof.Machine
end

