-- ==== Sys2Proof/Laws/Memory.lean ====
section
/-! SUPPORT. The frame buffer: every operation keeps the canonical form, and what a read answers after each. -/

namespace Sys2Proof.Machine

theorem Memory.risingFrom_mono {m : Memory} {j k : Nat} (hjk : j ≤ k) (h : Memory.risingFrom k m = true) :
    Memory.risingFrom j m = true := by
  cases m with
  | nil => rfl
  | cons c m =>
    simp only [Memory.risingFrom, Bool.and_eq_true, decide_eq_true_eq] at h ⊢
    exact ⟨by omega, h.2⟩

theorem Memory.write_risingFrom {m : Memory} {k off : Nat} {v : Byte} (h : Memory.risingFrom k m = true)
    (hk : k ≤ off) : Memory.risingFrom k (Memory.write m off v) = true := by
  induction m generalizing k with
  | nil => simp [Memory.write, Memory.risingFrom, hk]
  | cons c m ih =>
    obtain ⟨a, b⟩ := c
    simp only [Memory.risingFrom, Bool.and_eq_true, decide_eq_true_eq] at h
    rw [Memory.write]
    split_ifs with h1 h2
    · simp only [Memory.risingFrom, Bool.and_eq_true, decide_eq_true_eq]
      exact ⟨hk, by omega, h.2⟩
    · subst h2
      simp only [Memory.risingFrom, Bool.and_eq_true, decide_eq_true_eq]
      exact ⟨hk, h.2⟩
    · simp only [Memory.risingFrom, Bool.and_eq_true, decide_eq_true_eq]
      exact ⟨h.1, ih h.2 (by omega)⟩

/-- Writing a byte keeps the canonical form. -/
theorem Memory.write_wf {m : Memory} (off : Nat) (v : Byte) (h : Memory.wf m = true) :
    Memory.wf (Memory.write m off v) = true :=
  Memory.write_risingFrom h (Nat.zero_le off)

theorem Memory.ofBytesFrom_risingFrom (bytes : List Byte) (k : Nat) :
    Memory.risingFrom k (Memory.ofBytesFrom k bytes) = true := by
  induction bytes generalizing k with
  | nil => rfl
  | cons b bs ih => simp [Memory.ofBytesFrom, Memory.risingFrom, ih]

/-- A presented frame is canonical. -/
theorem Memory.ofBytes_wf (bytes : List Byte) : Memory.wf (Memory.ofBytes bytes) = true :=
  Memory.ofBytesFrom_risingFrom bytes 0

/-- Filling keeps the canonical form. -/
theorem Memory.fillBelow_wf {m : Memory} (n : Nat) (h : Memory.wf m = true) :
    Memory.wf (Memory.fillBelow m n) = true := by
  induction n with
  | zero => exact h
  | succ n ih =>
    rw [Memory.fillBelow]
    split_ifs
    · exact ih
    · exact Memory.write_wf n 0 ih

/-- The buffer after reset is canonical. -/
theorem State.reset_fb_wf : Memory.wf State.reset.fb = true := rfl

theorem Memory.read_write_self (m : Memory) (off : Nat) (v : Byte) :
    Memory.read (Memory.write m off v) off = some v := by
  induction m with
  | nil => simp [Memory.write, Memory.read]
  | cons c m ih =>
    obtain ⟨a, b⟩ := c
    rw [Memory.write]
    split_ifs with h1 h2
    · simp [Memory.read]
    · simp [Memory.read]
    · rw [Memory.read, if_neg (by omega), ih]

theorem Memory.read_write_other (m : Memory) {off off' : Nat} (v : Byte) (hne : off' ≠ off) :
    Memory.read (Memory.write m off v) off' = Memory.read m off' := by
  induction m with
  | nil => simp [Memory.write, Memory.read, hne.symm]
  | cons c m ih =>
    obtain ⟨a, b⟩ := c
    rw [Memory.write]
    split_ifs with h1 h2
    · rw [Memory.read, if_neg (by omega)]
    · subst h2
      rw [Memory.read, if_neg (by omega), Memory.read, if_neg (by omega)]
    · rw [Memory.read, Memory.read, ih]

theorem Memory.read_ofBytesFrom (bytes : List Byte) (k i : Nat) :
    Memory.read (Memory.ofBytesFrom k bytes) (k + i) = bytes[i]? := by
  induction bytes generalizing k i with
  | nil => simp [Memory.ofBytesFrom, Memory.read]
  | cons b bs ih =>
    rw [Memory.ofBytesFrom, Memory.read]
    cases i with
    | zero => simp
    | succ i =>
      rw [if_neg (by omega), show k + (i + 1) = k + 1 + i by omega, ih]
      simp

/-- Reading a presented frame gives its bytes and nothing past its end. -/
theorem Memory.read_ofBytes (bytes : List Byte) (i : Nat) : Memory.read (Memory.ofBytes bytes) i = bytes[i]? := by
  have h := Memory.read_ofBytesFrom bytes 0 i
  rwa [Nat.zero_add] at h

theorem Memory.covers_iff (m : Memory) (n : Nat) :
    Memory.covers m n = true ↔ ∀ i : Nat, i < n → Memory.read m i ≠ none := by
  simp [Memory.covers, Option.isSome_iff_ne_none]

theorem Memory.isSome_read_of_mem (h : (a, b) ∈ m) : (Memory.read m a).isSome = true := by
  induction m with
  | nil => simp at h
  | cons c m ih =>
    rw [Memory.read]
    split
    · rfl
    · rcases List.mem_cons.mp h with rfl | h
      · exact absurd rfl ‹_›
      · exact ih h

theorem Memory.mem_of_read (h : Memory.read m a = some b) : (a, b) ∈ m := by
  induction m with
  | nil => simp [Memory.read] at h
  | cons c m ih =>
    rw [Memory.read] at h
    split at h
    · cases c
      simp_all
    · exact List.mem_cons_of_mem _ (ih h)

theorem Memory.endsBy_iff (m : Memory) (n : Nat) :
    Memory.endsBy m n = true ↔ ∀ i : Nat, n ≤ i → Memory.read m i = none := by
  simp only [Memory.endsBy, List.all_eq_true, decide_eq_true_eq]
  refine ⟨fun h i hi => ?_, fun h c hc => ?_⟩
  · cases hr : Memory.read m i with
    | none => rfl
    | some b => exact absurd (h _ (Memory.mem_of_read hr)) (Nat.not_lt.mpr hi)
  · by_contra hlt
    have := Memory.isSome_read_of_mem (a := c.1) (b := c.2) hc
    simp [h c.1 (Nat.not_lt.mp hlt)] at this

theorem Memory.agreeBelow_iff (m m' : Memory) (n : Nat) :
    Memory.agreeBelow m m' n = true ↔ ∀ i : Nat, i < n → Memory.read m i = Memory.read m' i := by
  simp [Memory.agreeBelow]

/-- A buffer that agrees below `n` is readable there as the other is. -/
theorem Memory.covers_of_agreeBelow {m m' : Memory} {n : Nat} (h : Memory.agreeBelow m m' n = true)
    (hc : Memory.covers m n = true) : Memory.covers m' n = true := by
  rw [Memory.covers_iff] at hc ⊢
  rw [Memory.agreeBelow_iff] at h
  exact fun i hi => h i hi ▸ hc i hi

/-- A presented frame is readable over its whole length. -/
theorem Memory.covers_ofBytes (bytes : List Byte) : Memory.covers (Memory.ofBytes bytes) bytes.length = true := by
  rw [Memory.covers_iff]
  intro i hi
  simp [Memory.read_ofBytes, hi]

/-- A presented frame ends at its length. -/
theorem Memory.endsBy_ofBytes (bytes : List Byte) : Memory.endsBy (Memory.ofBytes bytes) bytes.length = true := by
  rw [Memory.endsBy_iff]
  intro i hi
  simp [Memory.read_ofBytes, hi]

end Sys2Proof.Machine
end

