-- ==== Sys2Proof/Laws/Ops.lean ====
section
/-! SUPPORT. What each shared operation can do, said once: reading a byte, the end of a transaction, the sequencer's
fetch, the host's moves. -/

namespace Sys2Proof.Machine

variable {s t : State} {off : Nat} {b : Byte}

/-! ## Reading -/

@[simp] theorem State.noteRead_of_undisturbed (h : s.disturbed = false) : s.noteRead = s := by
  cases s
  simp_all [State.noteRead]

theorem State.memRead_of_disturbed (hlen : off < s.lenR.toNat) (h : s.disturbed = true) :
    s.memRead off = .ok (Config.freeValue 8 s.draws) := by
  simp [State.memRead, h, Nat.not_le.mpr hlen]

theorem State.memRead_of_read (hlen : off < s.lenR.toNat) (h : s.disturbed = false)
    (hb : Memory.read s.fb off = some b) : s.memRead off = .ok b := by
  simp [State.memRead, h, hb, Nat.not_le.mpr hlen]

/-- Below `LEN_R` of a readable or disturbed buffer a read answers a byte. -/
theorem State.memRead_succeeds (hlen : off < s.lenR.toNat)
    (h : s.disturbed = true ∨ Memory.covers s.fb s.lenR.toNat = true) : ∃ b : Byte, s.memRead off = .ok b := by
  cases hd : s.disturbed with
  | true => exact ⟨_, State.memRead_of_disturbed hlen hd⟩
  | false =>
    have hc := (Memory.covers_iff _ _).mp (h.resolve_left (by simp [hd])) off hlen
    obtain ⟨v, hv⟩ := Option.ne_none_iff_exists'.mp hc
    exact ⟨v, State.memRead_of_read hlen hd hv⟩

/-- A read depends on the buffer, `LEN_R` and the bookkeeping alone. -/
theorem State.memRead_congr (hl : t.lenR = s.lenR) (hd : t.disturbed = s.disturbed) (hn : t.draws = s.draws)
    (hb : Memory.read t.fb off = Memory.read s.fb off) : t.memRead off = s.memRead off := by
  simp [State.memRead, hl, hd, hn, hb]

theorem State.withByte_of_read {k : Byte → State → Outcome} (h : s.memRead off = .ok b) :
    s.withByte off k = k b s.noteRead := by
  simp [State.withByte, h]

theorem State.withByte_of_fault {k : Byte → State → Outcome} (h : s.memRead off = .error f) :
    s.withByte off k = .fault f := by
  simp [State.withByte, h]

/-- If reading a byte and going on answers a next state, the byte was read and going on with it answered that state. -/
theorem State.withByte_next {k : Byte → State → Outcome} (h : s.withByte off k = .next t) :
    ∃ b : Byte, s.memRead off = .ok b ∧ k b s.noteRead = .next t := by
  unfold State.withByte at h
  split at h
  · exact ⟨_, ‹_›, h⟩
  · cases h

/-! ## The end of a transaction -/

/-- If the successful end answers a next state, both bytes were read, the high one first. -/
theorem State.completeOk_next (h : s.completeOk = .next t) :
    ∃ hi lo : Byte, s.memRead s.cfgR.voltHiOff.toNat = .ok hi ∧
      s.noteRead.memRead s.cfgR.voltLoOff.toNat = .ok lo ∧
      t = s.noteRead.noteRead.succeed (voltageDecode hi lo) := by
  obtain ⟨hi, hhi, h⟩ := State.withByte_next h
  obtain ⟨lo, hlo, h⟩ := State.withByte_next h
  cases h
  exact ⟨hi, lo, hhi, by simpa using hlo, rfl⟩

/-- What a whole frame can do: turned away as too long or ill-configured, disturb a running transaction, or run. -/
theorem State.transact_cases (s : State) (frame : List Byte) :
    (presentable frame = false ∧ s.transact frame = .refused .bufferTooLong) ∨
    (presentable frame = true ∧ s.phase ≠ .idle ∧ s.transact frame = .next (s.present frame)) ∨
    (presentable frame = true ∧ s.phase = .idle ∧ s.cfgPort.wf = false ∧
      s.transact frame = .refused .illFormedConfig) ∨
    (presentable frame = true ∧ s.phase = .idle ∧ s.cfgPort.wf = true ∧
      s.transact frame = .next ((s.present frame).latch.runTransaction frame)) := by
  unfold State.transact State.busy
  cases presentable frame <;> cases hw : s.cfgPort.wf <;> by_cases hp : s.phase = .idle <;> simp [hp]

/-- What `START` can do. -/
theorem execStart_cases (s : State) :
    (s.phase ≠ .idle ∧ execStart s = .next s) ∨
    (s.phase = .idle ∧ s.cfgPort.wf = false ∧ execStart s = .refused .illFormedConfig) ∨
    (s.phase = .idle ∧ s.cfgPort.wf = true ∧ Memory.covers s.fb s.lenPort.toNat = false ∧
      execStart s = .refused .bufferShorterThanLen) ∨
    (s.phase = .idle ∧ s.cfgPort.wf = true ∧ Memory.covers s.fb s.lenPort.toNat = true ∧
      Memory.endsBy s.fb s.lenPort.toNat = false ∧ execStart s = .refused .bufferLongerThanLen) ∨
    (s.phase = .idle ∧ s.cfgPort.wf = true ∧ Memory.covers s.fb s.lenPort.toNat = true ∧
      Memory.endsBy s.fb s.lenPort.toNat = true ∧ execStart s = .next s.latch) := by
  unfold execStart State.busy
  cases hw : s.cfgPort.wf <;> cases hc : Memory.covers s.fb s.lenPort.toNat <;>
    cases he : Memory.endsBy s.fb s.lenPort.toNat <;> by_cases hp : s.phase = .idle <;> simp [hp]

/-! ## The sequencer's fetch -/

/-- The instruction a phase selects (R75). -/
def Phase.instr : Phase → Instr
  | .idle => .idle
  | .vLen => .vLen
  | .vSync => .vSync
  | .vCid => .vCid
  | .cInit => .cInit
  | .cAdd => .cAdd
  | .cFin => .cFin
  | .vCsum => .vCsum
  | .xFlags => .xFlags
  | .xVolt => .xVolt

theorem decodeWord_phase_code (p : Phase) : decodeWord (.phase4 p.code) = .ok p.instr := by
  cases p <;> rfl

theorem runSequencer_eq (s : State) : runSequencer s = exec s.phase.instr s := by
  simp [runSequencer, State.fetchWord, runWord, decodeWord_phase_code]

/-- With no host move pending a step is the micro-operation of `PHASE`. -/
theorem step_of_inbox_nil (h : s.inbox = []) : step s = exec s.phase.instr s := by
  simp [step, runStep, h, runSequencer_eq]

/-- With a move pending a step is that move. -/
theorem step_of_inbox_cons {m : HostMove} {rest : List HostMove} (h : s.inbox = m :: rest) :
    step s = runMove m (s.withInbox rest) := by
  simp [step, runStep, h]

/-- A whole frame is the transaction of its bytes, whether or not the decoder knows the row. -/
theorem runFrame_eq (bytes : List Byte) (s : State) : runFrame bytes s = s.transact bytes := by
  have key : ∀ i : Instr, decodeFrameBytes bytes = .ok i → exec i s = s.transact bytes := by
    intro i hi
    unfold decodeFrameBytes at hi
    split at hi <;> try split at hi
    all_goals first | (cases hi; simp_all [exec, execFrame6, execFrame7]) | cases hi
  have hw : decodeWord (.frame bytes) = decodeFrameBytes bytes := rfl
  unfold runFrame
  rw [hw]
  cases h : decodeFrameBytes bytes with
  | ok i => exact key i h
  | error e => rfl

/-! ## What a step can do

One case for every way a step answers a next state. -/

/-- A step that answers a next state is the micro-operation of `PHASE` (with the moves that are left), or one of the
host's moves. -/
theorem step_cases (h : step s = .next t) :
    (∃ moves : List HostMove, exec s.phase.instr (s.withInbox moves) = .next t) ∨
    (∃ (moves : List HostMove) (c : Cfg), t = { s.withInbox moves with cfgPort := c }) ∨
    (∃ (moves : List HostMove) (bytes : List Byte), t = (s.withInbox moves).present bytes) ∨
    (∃ (moves : List HostMove) (n : BitVec 8), t = { s.withInbox moves with lenPort := n }) ∨
    (∃ (moves : List HostMove) (off b : BitVec 8),
      t = (s.withInbox moves).hostWrites (Memory.write s.fb off.toNat b)) ∨
    (∃ moves : List HostMove, t = (s.withInbox moves).resetPin) ∨
    (∃ moves : List HostMove, execStart (s.withInbox moves) = .next t) ∨
    (∃ moves : List HostMove, t = s.withInbox moves) ∨
    (∃ (moves : List HostMove) (bytes : List Byte), (s.withInbox moves).transact bytes = .next t) := by
  cases hin : s.inbox with
  | nil =>
    rw [step_of_inbox_nil hin] at h
    have hs : s.withInbox [] = s := by simp [State.withInbox, ← hin]
    exact .inl ⟨[], by rw [hs]; exact h⟩
  | cons m rest =>
    rw [step_of_inbox_cons hin] at h
    cases m with
    | cfg c => cases h; exact .inr (.inl ⟨rest, c, rfl⟩)
    | frame bytes =>
      simp only [runMove] at h
      split at h
      · cases h; exact .inr (.inr (.inl ⟨rest, bytes, rfl⟩))
      · cases h
    | len n => cases h; exact .inr (.inr (.inr (.inl ⟨rest, n, rfl⟩)))
    | poke off b => cases h; exact .inr (.inr (.inr (.inr (.inl ⟨rest, off, b, rfl⟩))))
    | pins rst start =>
      cases rst with
      | true => cases h; exact .inr (.inr (.inr (.inr (.inr (.inl ⟨rest, rfl⟩)))))
      | false =>
        cases start with
        | true => exact .inr (.inr (.inr (.inr (.inr (.inr (.inl ⟨rest, h⟩))))))
        | false =>
          simp only [runMove, samplePins, Bool.false_eq_true, if_false, runSequencer_eq] at h
          exact .inl ⟨rest, h⟩
    | wait =>
      simp only [runMove] at h
      split at h
      · cases h; exact .inr (.inr (.inr (.inr (.inr (.inr (.inr (.inl ⟨rest, rfl⟩)))))))
      · rw [runSequencer_eq] at h
        exact .inl ⟨.wait :: rest, h⟩
    | transact bytes =>
      simp only [runMove, runFrame_eq] at h
      exact .inr (.inr (.inr (.inr (.inr (.inr (.inr (.inr ⟨rest, bytes, h⟩)))))))

end Sys2Proof.Machine
end

