-- ==== Sys2Proof/Laws/PerInstr.lean ====
section
/-! SUPPORT. Per-instruction laws. Family `EncodedLength`: the encoding of an instruction has as many bits as its row of
opcode_table.json (R80). -/

namespace Sys2Proof.Laws

/-- The number of bits of an instruction's row in opcode_table.json: 4 for `PHASE4`, 1 for `HOSTCMD`, 3 for `ERRCODE3`,
48 and 56 for the frames. -/
def rowBits : Instr → Nat
  | .start => 1
  | .frame6 _ _ _ _ _ => 48
  | .frame7 _ _ _ _ _ _ => 56
  | .errNone => 3
  | .lengthMismatch => 3
  | .badSync => 3
  | .badCommandId => 3
  | .checksumMismatch => 3
  | .idle => 4
  | .vLen => 4
  | .vSync => 4
  | .vCid => 4
  | .cInit => 4
  | .cAdd => 4
  | .cFin => 4
  | .vCsum => 4
  | .xFlags => 4
  | .xVolt => 4

/-- The family's statement. -/
def EncodedLength.Statement (i : Instr) : Prop := (encode i).bits.length = rowBits i

theorem EncodedLength.idle : EncodedLength.Statement .idle := rfl
theorem EncodedLength.vLen : EncodedLength.Statement .vLen := rfl
theorem EncodedLength.vSync : EncodedLength.Statement .vSync := rfl
theorem EncodedLength.vCid : EncodedLength.Statement .vCid := rfl
theorem EncodedLength.cInit : EncodedLength.Statement .cInit := rfl
theorem EncodedLength.cAdd : EncodedLength.Statement .cAdd := rfl
theorem EncodedLength.cFin : EncodedLength.Statement .cFin := rfl
theorem EncodedLength.vCsum : EncodedLength.Statement .vCsum := rfl
theorem EncodedLength.xFlags : EncodedLength.Statement .xFlags := rfl
theorem EncodedLength.xVolt : EncodedLength.Statement .xVolt := rfl
theorem EncodedLength.start : EncodedLength.Statement .start := rfl
theorem EncodedLength.frame6 (c st h l k : Byte) : EncodedLength.Statement (.frame6 c st h l k) := by
  simp [EncodedLength.Statement, encode, Encoded.bits, bitsMsbFirst, rowBits]
theorem EncodedLength.frame7 (c st h l u k : Byte) : EncodedLength.Statement (.frame7 c st h l u k) := by
  simp [EncodedLength.Statement, encode, Encoded.bits, bitsMsbFirst, rowBits]
theorem EncodedLength.errNone : EncodedLength.Statement .errNone := rfl
theorem EncodedLength.lengthMismatch : EncodedLength.Statement .lengthMismatch := rfl
theorem EncodedLength.badSync : EncodedLength.Statement .badSync := rfl
theorem EncodedLength.badCommandId : EncodedLength.Statement .badCommandId := rfl
theorem EncodedLength.checksumMismatch : EncodedLength.Statement .checksumMismatch := rfl

end Sys2Proof.Laws
end

