-- ==== Sys2Proof/Tests/Slice0.lean ====
section
/-! SUPPORT. Tests: the decoder on words written out from the spec's tables, an ill-formed term for every check of
well-formedness, single steps with results from 95_test_vectors.md (its row named beside each), and for every statement
with hypotheses a witness that meets them. -/

namespace Sys2Proof.Tests

open Sys2Proof Sys2Proof.Machine

/-! ## Decoding (opcode_table.json, R71, R72, R75, R76) -/

theorem test_decode_idle : decodeWord (.phase4 0b0000) = .ok .idle := by decide
theorem test_decode_vLen : decodeWord (.phase4 0b0001) = .ok .vLen := by decide
theorem test_decode_vSync : decodeWord (.phase4 0b0010) = .ok .vSync := by decide
theorem test_decode_vCid : decodeWord (.phase4 0b0011) = .ok .vCid := by decide
theorem test_decode_cInit : decodeWord (.phase4 0b0100) = .ok .cInit := by decide
theorem test_decode_cAdd : decodeWord (.phase4 0b0101) = .ok .cAdd := by decide
theorem test_decode_cFin : decodeWord (.phase4 0b0110) = .ok .cFin := by decide
theorem test_decode_vCsum : decodeWord (.phase4 0b0111) = .ok .vCsum := by decide
theorem test_decode_xFlags : decodeWord (.phase4 0b1000) = .ok .xFlags := by decide
theorem test_decode_xVolt : decodeWord (.phase4 0b1001) = .ok .xVolt := by decide
theorem test_decode_start : decodeWord (.hostCmd 0b1) = .ok .start := by decide
theorem test_decode_frame6 :
    decodeWord (.frame [0b01010101, 0b10000001, 0b00000000, 0b10010110, 0b11111110, 0b11101000]) =
      .ok (.frame6 0x81 0x00 0x96 0xFE 0xE8) := by decide
theorem test_decode_frame7 :
    decodeWord (.frame [0b01010101, 0b10000001, 0b01000000, 0b10010110, 0b11111110, 0b00000001, 0b10101000]) =
      .ok (.frame7 0x81 0x40 0x96 0xFE 0x01 0xA8) := by decide
theorem test_decode_errNone : decodeWord (.errCode3 0b000) = .ok .errNone := by decide
theorem test_decode_lengthMismatch : decodeWord (.errCode3 0b001) = .ok .lengthMismatch := by decide
theorem test_decode_badSync : decodeWord (.errCode3 0b010) = .ok .badSync := by decide
theorem test_decode_badCommandId : decodeWord (.errCode3 0b011) = .ok .badCommandId := by decide
theorem test_decode_checksumMismatch : decodeWord (.errCode3 0b100) = .ok .checksumMismatch := by decide

theorem test_reserved_phase : decodeWord (.phase4 0b1010) = .error (.reservedPhase 0b1010) := by decide
theorem test_reserved_err : decodeWord (.errCode3 0b101) = .error (.reservedErrCode 0b101) := by decide
theorem test_no_command : decodeWord (.hostCmd 0b0) = .error .noCommand := by decide
theorem test_five_bytes : decodeWord (.frame [0x55, 1, 2, 3, 4]) = .error (.notAFrameLength 5) := by decide
theorem test_wrong_sync : decodeWord (.frame [0xAA, 1, 2, 3, 4, 5]) = .error (.notASyncByte 0xAA) := by decide

/-- Byte 0 in bits 7 to 0, byte 5 in bits 47 to 40 (log 15). -/
theorem test_table_word_frame6 :
    decodeTableWord 48 0xE8FE96008155 = some (.frame6 0x81 0x00 0x96 0xFE 0xE8) := by decide
theorem test_table_word_frame7 :
    decodeTableWord 56 0xA800FE96408155 = some (.frame7 0x81 0x40 0x96 0xFE 0x00 0xA8) := by decide
theorem test_table_word_phase : decodeTableWord 4 0b0101 = some .cAdd ∧ decodeTableWord 8 0b0101 = some .cAdd := by
  decide
theorem test_table_word_start_and_errors :
    decodeTableWord 1 1 = some .start ∧ decodeTableWord 3 0b011 = some .badCommandId := by decide

/-! ## Well-formedness: an ill-formed term for each check, beside the nearest accepted one (95 section 6) -/

theorem smoke_length :
    Cfg.wf { Cfg.p6 with frameLen := 5 } = false ∧ Cfg.wf { Cfg.p6 with frameLen := 0 } = false ∧
      Cfg.wf { Cfg.p6 with frameLen := 7 } = true := by decide
theorem smoke_span :
    Cfg.wf { Cfg.p6 with csEnd := 6 } = false ∧ Cfg.wf { Cfg.p6 with csFirst := 1 } = false ∧
      Cfg.wf { Cfg.p6 with csFirst := 4, csEnd := 3 } = false ∧
      Cfg.wf { Cfg.p6 with csFirst := 3, csEnd := 3 } = true := by decide
theorem smoke_offsets :
    Cfg.wf { Cfg.p6 with statusOff := 5 } = false ∧ Cfg.wf { Cfg.p6 with statusOff := 4 } = true ∧
      Cfg.wf { Cfg.p6 with voltHiOff := 1 } = false ∧ Cfg.wf { Cfg.p6 with voltHiOff := 2 } = true ∧
      Cfg.wf { Cfg.p7 with voltLoOff := 6 } = false ∧ Cfg.wf { Cfg.p7 with voltLoOff := 5 } = true := by decide
theorem smoke_masks :
    Cfg.wf { Cfg.p6 with maskError := 0xC0 } = false ∧ Cfg.wf { Cfg.p6 with maskVolt := 0xFF } = false ∧
      Cfg.wf { Cfg.p6 with maskDischg := 0x03 } = false ∧ Cfg.wf { Cfg.p6 with maskSupport := 0x05 } = false ∧
      Cfg.wf { Cfg.p6 with maskSupport := 0x00 } = true := by decide
theorem smoke_presets : Cfg.wf Cfg.p6 = true ∧ Cfg.wf Cfg.p7 = true ∧ Cfg.wf Cfg.layout6 = true := by decide
theorem smoke_host_move :
    (HostMove.frame (List.replicate 256 0)).wf = false ∧ (HostMove.transact (List.replicate 256 0)).wf = false ∧
      (HostMove.frame (List.replicate 255 0)).wf = true := by
  simp only [HostMove.wf, presentable, List.length_replicate]
  decide
theorem smoke_instr : (Instr.frame6 0xFF 0xFF 0xFF 0xFF 0xFF).wf = true := by decide

/-! ## Small states -/

/-- The well-formed 6-byte frame of row V1. -/
def good6 : List Byte := [0x55, 0x81, 0x00, 0x96, 0xFE, 0xE8]

/-- The well-formed 7-byte frame of row V30. -/
def good7 : List Byte := [0x55, 0x81, 0x40, 0x96, 0xFE, 0x00, 0xA8]

/-- A transaction under `P6` on a buffer, at a phase. -/
def at6 (p : Phase) (bytes : List Byte) : State :=
  { State.reset with
    phase := p, cfgR := Cfg.p6, cfgPort := Cfg.p6, lenR := 6, lenPort := 6, fb := Memory.ofBytes bytes, idx := 2,
    acc := 0x81, csum := 0xE8 }

/-- A transaction under `P7` on a buffer, at a phase. -/
def at7 (p : Phase) (bytes : List Byte) : State :=
  { State.reset with
    phase := p, cfgR := Cfg.p7, cfgPort := Cfg.p7, lenR := 7, lenPort := 7, fb := Memory.ofBytes bytes, idx := 2,
    acc := 0x81, csum := 0xA8 }

/-- The next phase an outcome answers. -/
def phaseOf (o : Outcome) : Option Phase := (nextOf o).map State.phase

/-- The failure an outcome reports: code and payload. -/
def failOf (o : Outcome) : Option (Bool × BitVec 3 × BitVec 8 × BitVec 8) :=
  (nextOf o).map fun t => (t.resOk, t.errCode, t.diag0, t.diag1)

/-! ## Functions (95 sections 2, 4, 5) -/

theorem test_checksum_K18 : computeChecksum 0x81 [0x00, 0x96, 0xFE] = 0xE8 := by decide
theorem test_checksum_K6_K7 : computeChecksum 0xFF [0x01] = 0xFE ∧ computeChecksum 0x01 [0xFE] = 0x00 := by decide
theorem test_cs_step_boundaries :
    csStep 0x00FF 0x01 = 0x0001 ∧ csStep 0x00FF 0xFF = 0x00FF ∧ csStep 0x00FE 0x01 = 0x00FF := by decide
theorem test_bit_extract : bitExtract 0xBF 0x40 = false ∧ bitExtract 0x40 0x40 = true ∧ bitExtract 0xFF 0x00 = false := by
  decide
theorem test_voltage_order : voltageDecode 0x12 0x34 = 0x1234 ∧ voltageDecode 0x96 0xFE = 38654 := by decide
theorem test_decode_V1 :
    decodeFrame Cfg.p6 good6 =
      .ok { voltage := 0x96FE, hasError := false, voltFlag := false, isSupported := true, discharge := false } := by
  decide
theorem test_decode_V4_modulo256 :
    decodeFrame Cfg.p6 [0x55, 0x81, 0x00, 0x96, 0xFE, 0xEA] = .err (.checksumMismatch 0xE8 0xEA) := by decide

/-! ## Micro-operations, one step each (95 section 7) -/

theorem test_start_M1 :
    nextOf (exec .start { at6 .idle good6 with resValid := true, lenR := 0 }) =
      some { at6 .vLen good6 with resValid := false } := by decide
theorem test_start_while_busy_M2 :
    nextOf (exec .start { at6 .cAdd good6 with cfgPort := Cfg.p7 }) = some { at6 .cAdd good6 with cfgPort := Cfg.p7 } := by
  decide
theorem test_start_ill_formed :
    execStart { at6 .idle good6 with cfgPort := { Cfg.p6 with csEnd := 6 } } = .refused .illFormedConfig := by rfl
/-- Seven bytes behind `len = 6` (R222), and the exact length (program 4, "a truthful `len`"). -/
theorem test_start_untrue_length :
    execStart (at6 .idle good7) = .refused .bufferLongerThanLen ∧ phaseOf (execStart (at6 .idle good6)) = some .vLen :=
  ⟨rfl, by decide⟩
theorem test_vLen_M3 : phaseOf (exec .vLen (at6 .vLen good6)) = some .vSync := by decide
theorem test_vLen_M4 : failOf (exec .vLen { at6 .vLen good6 with lenR := 5 }) = some (false, 1, 0x06, 0x05) := by decide
theorem test_vSync_M6 : phaseOf (exec .vSync (at6 .vSync good6)) = some .vCid := by decide
theorem test_vSync_M7 :
    failOf (exec .vSync (at6 .vSync [0xAA, 0x81, 0x00, 0x96, 0xFE, 0xE8])) = some (false, 2, 0x55, 0xAA) := by decide
theorem test_vCid_M9 :
    failOf (exec .vCid (at7 .vCid [0x55, 0x82, 0x40, 0x96, 0xFE, 0x00, 0xA7])) = some (false, 3, 0x81, 0x82) := by decide
theorem test_vCid_M10 :
    phaseOf (exec .vCid (at6 .vCid [0x55, 0x82, 0x00, 0x96, 0xFE, 0xE7])) = some .cInit := by decide
theorem test_cInit_M11 :
    (nextOf (exec .cInit { at6 .cInit good6 with acc := 0xFFFF, idx := 7 })).map (fun t => (t.acc, t.idx, t.phase)) =
      some (0x0081, 2, .cAdd) := by decide
theorem test_cInit_M12 :
    phaseOf (exec .cInit { at6 .cInit good6 with cfgR := { Cfg.p6 with csFirst := 2, csEnd := 2 } }) = some .cFin := by
  decide
theorem test_cAdd_M14 :
    (nextOf (exec .cAdd { at6 .cAdd good6 with idx := 3 })).map (fun t => (t.acc, t.idx, t.phase)) =
      some (0x0018, 4, .cAdd) := by decide
theorem test_cAdd_M15 :
    (nextOf (exec .cAdd { at6 .cAdd good6 with acc := 0x0018, idx := 4 })).map (fun t => (t.acc, t.idx, t.phase)) =
      some (0x0017, 5, .cFin) := by decide
theorem test_cFin_M16 :
    (nextOf (exec .cFin { at6 .cFin good6 with acc := 0x0017, csum := 0 })).map (fun t => (t.csum, t.phase)) =
      some (0xE8, .vCsum) := by decide
theorem test_vCsum_M19 : phaseOf (exec .vCsum (at6 .vCsum good6)) = some .xFlags := by decide
theorem test_vCsum_M20 :
    failOf (exec .vCsum (at6 .vCsum [0x55, 0x81, 0x00, 0x96, 0xFE, 0x3F])) = some (false, 4, 0xE8, 0x3F) := by decide
theorem test_xFlags_M21 :
    (nextOf (exec .xFlags (at6 .xFlags good6))).map State.flags = some (false, false, true, false) := by decide
theorem test_xFlags_M22 :
    (nextOf (exec .xFlags (at7 .xFlags good7))).map State.flags = some (false, true, false, false) := by decide
theorem test_xVolt_M23 :
    (nextOf (exec .xVolt { at6 .xVolt good6 with isSupported := true, errCode := 4, diag0 := 1 })).map
        (fun t => (t.resultRegs, t.resValid, t.phase)) =
      some (regsOf (.ok { voltage := 0x96FE, hasError := false, voltFlag := false, isSupported := true,
                          discharge := false }), true, .idle) := by decide
theorem test_fail_clears_outputs :
    (nextOf (exec .lengthMismatch { at6 .vLen good6 with voltage := 7, hasError := true, dischg := true, lenR := 0xFF })).map
        (fun t => (t.resultRegs, t.resValid, t.phase, t.acc)) =
      some (errRegs 1 0x06 0xFF, true, .idle, 0x81) := by decide
theorem test_idle_holds : nextOf (exec .idle (at6 .idle good6)) = some (at6 .idle good6) := by decide

/-! ## Whole frames (95 sections 3, 4, 6) -/

theorem test_frame6_V1 :
    (nextOf (exec (.frame6 0x81 0x00 0x96 0xFE 0xE8) (at6 .idle []))).map State.readResult =
      some (some (.ok { voltage := 0x96FE, hasError := false, voltFlag := false, isSupported := true,
                        discharge := false })) := by decide
theorem test_frame7_B24 :
    (nextOf (exec (.frame7 0x81 0x40 0x96 0xFE 0x5A 0x4E) (at7 .idle []))).map State.readResult =
      some (some (.ok { voltage := 0x96FE, hasError := false, voltFlag := true, isSupported := false,
                        discharge := false })) := by decide
theorem test_frame6_under_P7_V40 :
    failOf (exec (.frame6 0x81 0x00 0x96 0xFE 0xE8) (at7 .idle [])) = some (false, 1, 0x07, 0x06) := by decide

/-! ## Steps of the host interface -/

theorem test_reset_pin_M24 :
    (nextOf (step { at6 .cAdd good6 with inbox := [.pins true true] })).map (fun t => (t.phase, t.resValid, t.fb)) =
      some (.idle, false, Memory.ofBytes good6) := by decide
theorem test_ports_while_busy :
    nextOf (step { at6 .cAdd good6 with inbox := [.cfg Cfg.p7] }) = some { at6 .cAdd good6 with cfgPort := Cfg.p7 } := by
  decide
theorem test_poke_while_busy_disturbs :
    (nextOf (step { at6 .cAdd good6 with inbox := [.poke 3 0] })).map State.disturbed = some true ∧
      (nextOf (step { at6 .cAdd good6 with inbox := [.poke 3 0x96] })).map State.disturbed = some false ∧
      (nextOf (step { at6 .cAdd good6 with inbox := [.poke 6 0] })).map State.disturbed = some false := by decide

/-! ## The first instruction after reset (log 16) -/

theorem test_first_vSync : phaseOf (step (State.reset.withFetchWord 4 0b0010)) = some .idle := by decide
theorem test_first_start : phaseOf (step (State.reset.withFetchWord 1 1)) = some .vLen := by decide
theorem test_first_frame6 :
    (nextOf (step (State.reset.withFetchWord 48 0xE8FE96008155))).map State.voltage = some 0x96FE := by decide
theorem test_first_errors :
    (failOf (step (State.reset.withFetchWord 3 1))).map (fun r => r.2.1) = some 1 ∧
      (failOf (step (State.reset.withFetchWord 3 2))).map (fun r => r.2.1) = some 2 ∧
      (failOf (step (State.reset.withFetchWord 3 3))).map (fun r => r.2.1) = some 3 ∧
      (failOf (step (State.reset.withFetchWord 3 4))).map (fun r => r.2.1) = some 4 := by decide

/-! ## Witnesses: for every statement with hypotheses, states and operands that meet them, clause by clause -/

/-- The sequencer invariant of a running state, for the witnesses below. -/
theorem seqInv_at6 (p : Phase) (h : p ≠ .cAdd) : SeqInv (at6 p good6) := by
  cases p <;> first | exact absurd rfl h | (constructor <;> decide)

theorem witness_EncodedInstructionDecodesBack : (Instr.frame7 0xFF 0 1 2 3 4).wf = true := by decide
theorem witness_DecodedWordEncodesBack : decodeWord (.errCode3 4) = .ok .checksumMismatch := by decide
theorem witness_OtherWordsAreRejected :
    10 ≤ (10#4).toNat ∧ 10 ≤ (15#4).toNat ∧ 5 ≤ (5#3).toNat ∧ 5 ≤ (7#3).toNat ∧
      (([] : List Byte).length ≠ 6 ∧ ([] : List Byte).length ≠ 7) ∧
      ((List.replicate 8 (0 : Byte)).length ≠ 6 ∧ (List.replicate 8 (0 : Byte)).length ≠ 7) ∧
      (0x54#8 ≠ 0x55#8 ∧ ((List.replicate 5 (0 : Byte)).length = 5 ∨ (List.replicate 5 (0 : Byte)).length = 6)) ∧
      ((List.replicate 6 (0 : Byte)).length = 5 ∨ (List.replicate 6 (0 : Byte)).length = 6) := by decide
theorem witness_FrameBitsAreNumberedFromTheLeft :
    (good7[0]? = some 0x55 ∧ 7 < 8) ∧ (good7[6]? = some 0xA8 ∧ 0 < 8) := by decide
theorem witness_AccumulatorStaysAByte :
    (255#16).toNat ≤ 255 ∧ 256 ≤ (255#16).toNat + (1#8).toNat ∧ 256 ≤ (255#16).toNat + (255#8).toNat := by decide
theorem witness_ChecksumIsNotModulo256 :
    ([0x96, 0xFE] : List Byte).length ≤ 255 ∧ 0 < foldCount ((0x81#8).setWidth 16) [0x96, 0xFE] := by decide
theorem witness_ChecksumMissesReorderingAndCongruentSums :
    List.Perm ([1, 2] : List Byte) [2, 1] ∧
      (0 < (1#8).toNat + (([] : List Byte).map BitVec.toNat).sum ∧
        0 < (1#8).toNat + (([0xFF] : List Byte).map BitVec.toNat).sum ∧
        ((1#8).toNat + (([] : List Byte).map BitVec.toNat).sum) % 255 =
          ((1#8).toNat + (([0xFF] : List Byte).map BitVec.toNat).sum) % 255) := by decide
theorem witness_BitExtractIsTheMaskedBit : 7 < 8 ∧ maskOk 0x80 = true ∧ (0x80#8) ≠ 0#8 ∧ maskOk 0x01 = true := by decide
theorem witness_FlagsFollowTheirMasks :
    Cfg.p7.supportInv = false ∧ Cfg.p6.supportInv = true ∧ Cfg.layout6.maskSupport = 0#8 := by decide
theorem witness_FirstFailingCheckIsReported :
    ([] : List Byte).length ≠ Cfg.p6.frameLen.toNat ∧
      (good6.length = Cfg.p6.frameLen.toNat ∧ byteAt [0xAA, 0x81, 0x00, 0x96, 0xFE, 0xE8] 0 ≠ 0x55) ∧
      (good7.length = Cfg.p7.frameLen.toNat ∧ byteAt good7 0 = 0x55 ∧ Cfg.p7.cidCheck = true ∧
        byteAt [0x55, 0x82, 0x40, 0x96, 0xFE, 0x00, 0xA8] 1 ≠ Cfg.p7.expectedCid) ∧
      (byteAt good7 1 = Cfg.p7.expectedCid ∧
        computeChecksum (byteAt good7 1) (spanBytes Cfg.p7 [0x55, 0x81, 0x40, 0x96, 0xFE, 0x00, 0xFF]) ≠
          byteAt [0x55, 0x81, 0x40, 0x96, 0xFE, 0x00, 0xFF] 6) := by decide
theorem witness_ExactlyOneChecksumByteIsAccepted :
    (Cfg.p7.wf = true ∧ (good7.take 6).length + 1 = Cfg.p7.frameLen.toNat ∧ byteAt (good7.take 6) 0 = 0x55 ∧
      Cfg.p7.cidCheck = true ∧ byteAt (good7.take 6) 1 = Cfg.p7.expectedCid) ∧
      (Cfg.p6.wf = true ∧ (good6.take 5).length + 1 = Cfg.p6.frameLen.toNat ∧ byteAt (good6.take 5) 0 = 0x55 ∧
        Cfg.p6.cidCheck = false) := by decide
theorem witness_IllFormedConfigurationIsRefused :
    ({ at6 .idle good6 with cfgPort := { Cfg.p6 with csEnd := 6 } } : State).phase = .idle ∧
      ({ at6 .idle good6 with cfgPort := { Cfg.p6 with csEnd := 6 } } : State).cfgPort.wf = false := by decide
theorem witness_ReadGivesTheByteBelowLength :
    (5 < (at6 .vSync good6).lenR.toNat ∧ (at6 .vSync good6).disturbed = false ∧
        Memory.read (at6 .vSync good6).fb 5 = some 0xE8) ∧
      ({ at6 .vSync good6 with disturbed := true } : State).disturbed = true ∧
      (at6 .vSync good6).lenR.toNat ≤ 6 ∧
      (5 < (at6 .vSync []).lenR.toNat ∧ (at6 .vSync []).disturbed = false ∧ Memory.read (at6 .vSync []).fb 5 = none) := by
  decide
theorem witness_PresentedFrameIsWhatIsRead : (1 : Nat) ≠ 0 := by decide
theorem witness_VLenComparesTheLengths :
    (at6 .vLen good6).lenR = (at6 .vLen good6).cfgR.frameLen.setWidth 8 ∧
      ({ at6 .vLen good6 with lenR := 7 } : State).lenR ≠ (at6 .vLen good6).cfgR.frameLen.setWidth 8 := by decide
theorem witness_VSyncChecksTheSyncByte :
    (at6 .vSync good6).memRead 0 = .ok 0x55 ∧ (at6 .vSync [0x54, 1]).memRead 0 = .ok 0x54 ∧ 0x54#8 ≠ 0x55#8 := by decide
theorem witness_VCidChecksTheCommandId :
    ((at6 .vCid good6).memRead 1 = .ok 0x81 ∧ (at6 .vCid good6).cfgR.cidCheck = false) ∧
      ((at7 .vCid good7).memRead 1 = .ok 0x81 ∧ (0x81 : Byte) = (at7 .vCid good7).cfgR.expectedCid) ∧
      ((at7 .vCid [0x55, 0x80]).memRead 1 = .ok 0x80 ∧ (at7 .vCid [0x55, 0x80]).cfgR.cidCheck = true ∧
        (0x80 : Byte) ≠ (at7 .vCid [0x55, 0x80]).cfgR.expectedCid) := by decide
theorem witness_CInitSeedsTheAccumulator :
    ((at6 .cInit good6).memRead 1 = .ok 0x81 ∧ (at6 .cInit good6).cfgR.csFirst < (at6 .cInit good6).cfgR.csEnd) ∧
      ¬ ({ Cfg.p6 with csFirst := 5 } : Cfg).csFirst < ({ Cfg.p6 with csFirst := 5 } : Cfg).csEnd := by decide
theorem witness_CAddFoldsOneByte :
    ((at6 .cAdd good6).memRead (at6 .cAdd good6).idx.toNat = .ok 0x00 ∧
        (at6 .cAdd good6).idx.toNat + 1 < (at6 .cAdd good6).cfgR.csEnd.toNat) ∧
      (({ at6 .cAdd good6 with idx := 4 } : State).memRead 4 = .ok 0xFE ∧
        (at6 .cAdd good6).cfgR.csEnd.toNat ≤ (4#3).toNat + 1) := by decide
theorem witness_VCsumComparesTheChecksums :
    ((at6 .vCsum good6).memRead ((at6 .vCsum good6).cfgR.frameLen.toNat - 1) = .ok 0xE8 ∧
        (at6 .vCsum good6).csum = 0xE8) ∧
      (at6 .vCsum [0, 0, 0, 0, 0, 0xE9]).memRead 5 = .ok 0xE9 := by decide
theorem witness_XFlagsExtractsFourFlags :
    (at7 .xFlags good7).memRead (at7 .xFlags good7).cfgR.statusOff.toNat = .ok 0x40 := by decide
theorem witness_XVoltCompletesTheTransaction :
    (at6 .xVolt good6).memRead (at6 .xVolt good6).cfgR.voltHiOff.toNat = .ok 0x96 ∧
      (at6 .xVolt good6).noteRead.memRead (at6 .xVolt good6).cfgR.voltLoOff.toNat = .ok 0xFE := by decide
theorem witness_IdleHolds : (at6 .idle good6).phase = .idle ∧ (at6 .idle good6).inbox = [] := by decide
theorem witness_StartSamplesThePorts :
    ((at6 .idle good6).phase = .idle ∧ (at6 .idle good6).cfgPort.wf = true ∧
        ∀ off : Nat, Memory.read (at6 .idle good6).fb off ≠ none ↔ off < (at6 .idle good6).lenPort.toNat) ∧
      (at6 .cAdd good6).phase ≠ .idle ∧
      ({ at6 .vLen good6 with inbox := [.pins false true] } : State).inbox = [.pins false true] := by
  refine ⟨⟨rfl, by decide, fun off => ?_⟩, by decide, rfl⟩
  show Memory.read (Memory.ofBytes good6) off ≠ none ↔ off < good6.length
  simp [Memory.read_ofBytes]
theorem witness_StartWithAnUntrueLengthIsRefused :
    (at6 .idle [1, 2, 3, 4, 5]).phase = .idle ∧ (at6 .idle [1, 2, 3, 4, 5]).cfgPort.wf = true ∧
      (5 < (at6 .idle [1, 2, 3, 4, 5]).lenPort.toNat ∧ Memory.read (at6 .idle [1, 2, 3, 4, 5]).fb 5 = none) ∧
      ((∀ i : Nat, i < (at6 .idle good7).lenPort.toNat → Memory.read (at6 .idle good7).fb i ≠ none) ∧
        (at6 .idle good7).lenPort.toNat ≤ 6 ∧ Memory.read (at6 .idle good7).fb 6 ≠ none) := by decide
/-- A read at or past `LEN_R`, one of a byte not presented, and one of the second voltage byte alone. -/
theorem witness_FaultingReadStopsTheInstruction :
    ({ at6 .vSync good6 with lenR := 0 } : State).memRead 0 = .error (.offsetBeyondLen 0) ∧
      (at6 .vCid []).memRead 1 = .error (.byteNotPresented 1) ∧
      ({ at6 .cAdd good6 with idx := 7 } : State).memRead 7 = .error (.offsetBeyondLen 7) ∧
      (at6 .vCsum []).memRead ((at6 .vCsum []).cfgR.frameLen.toNat - 1) = .error (.byteNotPresented 5) ∧
      (at6 .xFlags [0x55]).memRead (at6 .xFlags [0x55]).cfgR.statusOff.toNat = .error (.byteNotPresented 2) ∧
      ((at6 .xVolt [0, 0, 0, 9]).memRead (at6 .xVolt [0, 0, 0, 9]).cfgR.voltHiOff.toNat = .ok 9 ∧
        (at6 .xVolt [0, 0, 0, 9]).noteRead.memRead (at6 .xVolt [0, 0, 0, 9]).cfgR.voltLoOff.toNat =
          .error (.byteNotPresented 4)) ∧
      (at6 .xVolt [0, 0, 0]).memRead (at6 .xVolt [0, 0, 0]).cfgR.voltHiOff.toNat = .error (.byteNotPresented 3) := by
  decide
theorem witness_ErrorRowsRecordTheirPayloads :
    ((at6 .xVolt good6).memRead (at6 .xVolt good6).cfgR.voltHiOff.toNat = .ok 0x96 ∧
      (at6 .xVolt good6).noteRead.memRead (at6 .xVolt good6).cfgR.voltLoOff.toNat = .ok 0xFE) ∧
    (at6 .idle good6).memRead 0 = .ok 0x55 ∧ (at6 .idle good6).memRead 1 = .ok 0x81 ∧
      (at6 .idle good6).memRead ((at6 .idle good6).cfgR.frameLen.toNat - 1) = .ok 0xE8 := by decide
/-- A failing check of every kind, and a success, each from a state without a result. -/
theorem witness_EachErrorComesFromItsOwnCheck :
    (∃ t : State, step { at6 .vLen good6 with lenR := 7 } = .next t ∧ t.resValid = true ∧ t.errCode = 1#3) ∧
      (∃ t : State, step (at6 .vSync [0]) = .next t ∧ t.resValid = true ∧ t.errCode = 2#3) ∧
      (∃ t : State, step (at7 .vCid [0x55, 0x80]) = .next t ∧ t.resValid = true ∧ t.errCode = 3#3) ∧
      (∃ t : State, step { at6 .vCsum good6 with csum := 0 } = .next t ∧ t.resValid = true ∧ t.errCode = 4#3) ∧
      (∃ t : State, step (at6 .xVolt good6) = .next t ∧ t.resValid = true ∧ t.resOk = true) :=
  ⟨⟨_, rfl, rfl, rfl⟩, ⟨_, rfl, rfl, rfl⟩, ⟨_, rfl, rfl, rfl⟩, ⟨_, rfl, rfl, rfl⟩, ⟨_, rfl, rfl, rfl⟩⟩
theorem witness_SixByteFrameIsDecoded : (at6 .idle []).phase = .idle ∧ (at6 .idle []).cfgPort.wf = true := by decide
theorem witness_SixByteFrameIsDecoded_outcomes :
    (decodeFrame Cfg.p6 good6).reachesChecksum = true ∧ (decodeFrame Cfg.p7 good6).reachesChecksum = false := by decide
theorem witness_SevenByteFrameIsDecoded : (at7 .idle []).phase = .idle ∧ (at7 .idle []).cfgPort.wf = true := by decide
theorem witness_SevenByteFrameIsDecoded_outcomes :
    (decodeFrame Cfg.p7 good7).reachesChecksum = true ∧ (decodeFrame Cfg.p6 good7).reachesChecksum = false := by decide
theorem witness_DefaultLayoutFramesAreAccepted :
    ((at6 .idle []).phase = .idle ∧ Cfg.p6.wf = true ∧ Cfg.p6.cidCheck = false ∧ Cfg.p6.csFirst = 2 ∧
        Cfg.p6.statusOff = 2 ∧ Cfg.p6.voltHiOff = 3 ∧ Cfg.p6.voltLoOff = 4 ∧ Cfg.p6.frameLen = 6 ∧ Cfg.p6.csEnd = 5) ∧
      (Cfg.p7.wf = true ∧ (0x81 : Byte) = Cfg.p7.expectedCid ∧ Cfg.p7.csFirst = 2 ∧ Cfg.p7.statusOff = 2 ∧
        Cfg.p7.voltHiOff = 3 ∧ Cfg.p7.voltLoOff = 4 ∧ Cfg.p7.frameLen = 7 ∧ Cfg.p7.csEnd = 6) := by decide
theorem witness_FrameWhileBusyOrIllFormedDecodesNothing :
    (at6 .cFin good6).phase ≠ .idle ∧
      ({ at6 .idle [] with cfgPort := { Cfg.p6 with frameLen := 5 } } : State).phase = .idle ∧
      ({ at6 .idle [] with cfgPort := { Cfg.p6 with frameLen := 5 } } : State).cfgPort.wf = false := by decide
theorem witness_StepRunsTheDecodedInstruction :
    ((at6 .cAdd good6).inbox = [] ∧ decodeWord (at6 .cAdd good6).fetchWord = .ok .cAdd) ∧
      ({ at6 .cAdd good6 with inbox := [.pins false true] } : State).inbox = .pins false true :: [] ∧
      ({ at6 .cAdd good6 with inbox := [.pins false false] } : State).inbox = .pins false false :: [] ∧
      (({ at6 .idle [] with inbox := [.transact good6] } : State).inbox = .transact good6 :: [] ∧
        decodeWord (.frame good6) = .ok (.frame6 0x81 0x00 0x96 0xFE 0xE8)) ∧
      (({ at6 .idle good6 with inbox := [.wait], resValid := true } : State).inbox = .wait :: [] ∧
        ({ at6 .cAdd good6 with inbox := [.wait] } : State).resValid = false) := by decide
theorem witness_ResetPinWinsOverStart :
    ({ at6 .xFlags good6 with inbox := [.pins true true] } : State).inbox = .pins true true :: [] := by decide
theorem witness_PortMovesChangeNoRegister :
    ({ at6 .cAdd good6 with inbox := [.cfg Cfg.p7] } : State).inbox = .cfg Cfg.p7 :: [] ∧
      ({ at6 .cAdd good6 with inbox := [.len 7] } : State).inbox = .len 7 :: [] ∧
      (({ at6 .idle [] with inbox := [.frame (List.replicate 255 0)] } : State).inbox =
          .frame (List.replicate 255 0) :: [] ∧ (List.replicate 255 (0 : Byte)).length ≤ 255) ∧
      (({ at6 .idle [] with inbox := [.transact (List.replicate 256 0)] } : State).inbox =
          .transact (List.replicate 256 0) :: [] ∧ 255 < (List.replicate 256 (0 : Byte)).length) ∧
      ({ at6 .cAdd good6 with inbox := [.poke 255 0] } : State).inbox = .poke 255 0 :: [] :=
  ⟨rfl, rfl, ⟨rfl, List.length_replicate.le⟩, ⟨rfl, by rw [List.length_replicate]; decide⟩, rfl⟩
theorem witness_BufferChangeWhileBusyFreesTheReads :
    (∃ t : State, step { at6 .cAdd good6 with inbox := [.poke 5 0] } = .next t ∧ t.disturbed = true) ∧
      (∃ t : State, step { at6 .cAdd good6 with inbox := [.poke 6 0] } = .next t ∧ t.disturbed = false) ∧
      (5 < (at6 .cAdd good6).lenR.toNat ∧ Memory.read (at6 .cAdd good6).fb 5 ≠ some 0) ∧
      (at6 .cAdd good6).lenR.toNat ≤ 6 ∧ Memory.read (at6 .cAdd good6).fb 5 = some 0xE8 :=
  ⟨⟨_, rfl, rfl⟩, ⟨_, rfl, rfl⟩, by decide⟩
theorem witness_StepKeepsSequencerInvariant : SeqInv (at6 .vSync good6) ∧ ∃ t : State, step (at6 .vSync good6) = .next t :=
  ⟨seqInv_at6 _ (by decide), _, rfl⟩
theorem witness_StepKeepsResultInvariant :
    ResultInv (at6 .xVolt good6) ∧ ∃ t : State, step (at6 .xVolt good6) = .next t ∧ t.resValid = true :=
  ⟨fun h => absurd h (by decide), _, rfl, rfl⟩
theorem witness_NoReadIsOutOfBounds : SeqInv (at6 .vCsum good6) ∧ (at6 .vCsum good6).reads = [5] :=
  ⟨seqInv_at6 _ (by decide), rfl⟩
theorem witness_BlockNeverWritesTheBuffer :
    (∃ t : State, exec .start (at6 .idle good6) = .next t) ∧ (∃ t : State, exec .xVolt (at6 .xVolt good6) = .next t) :=
  ⟨⟨_, rfl⟩, ⟨_, rfl⟩⟩
theorem witness_PhaseFollowsTheTransitionTable :
    (∃ t : State, step (at6 .cAdd good6) = .next t) ∧ ∃ t : State, exec .start (at6 .idle good6) = .next t :=
  ⟨⟨_, rfl⟩, ⟨_, rfl⟩⟩
theorem witness_FlagsHaveTwoWritersAndNoReader :
    (∃ t : State, step (at7 .xFlags good7) = .next t ∧ t.flags ≠ (at7 .xFlags good7).flags) ∧
      ∃ t : State, step { at6 .vSync [0] with dischg := true } = .next t ∧ t.flags ≠ (false, false, false, true) :=
  ⟨⟨_, rfl, by decide⟩, ⟨_, rfl, by decide⟩⟩
theorem witness_PortsAreSampledOnlyByStart : (at6 .cInit good6).inbox = [] := by decide
theorem witness_StepReadsOnlyTheListedOffsets :
    (at6 .xFlags good6).inbox = [] ∧
      ∀ off ∈ (at6 .xFlags good6).reads, Memory.read (Memory.ofBytes [9, 9, 0x00]) off = Memory.read (at6 .xFlags good6).fb off := by
  decide
theorem witness_ChecksumPhasesComputeTheChecksum :
    (at6 .cInit good6).inbox = [] ∧ (at6 .cInit good6).phase = .cInit ∧ (at6 .cInit good6).disturbed = false ∧
      (at6 .cInit good6).cfgR.wf = true ∧ good6.length = (at6 .cInit good6).cfgR.frameLen.toNat ∧
      (at6 .cInit good6).lenR.toNat = good6.length ∧
      ∀ i : Nat, i < good6.length → Memory.read (at6 .cInit good6).fb i = good6[i]? := by decide
theorem witness_SequencerAgreesWithDecode :
    (at6 .idle []).phase = .idle ∧ (at6 .idle []).cfgPort.wf = true ∧ good6.length ≤ 255 ∧
      stepCount Cfg.p6 (decodeFrame Cfg.p6 good6) = 11 ∧ stepCount Cfg.p6 (decodeFrame Cfg.p6 []) = 1 := by decide
theorem witness_TransactionDoesNotEndBeforeItsStepCount :
    10 < stepCount Cfg.p6 (decodeFrame Cfg.p6 good6) ∧ 0 < stepCount Cfg.p6 (decodeFrame Cfg.p6 []) := by decide
theorem witness_EveryTransactionEnds :
    SeqInv (at6 .vLen good6) ∧ (at6 .vLen good6).inbox = [] ∧ (at6 .vLen good6).phase ≠ .idle :=
  ⟨seqInv_at6 _ (by decide), rfl, by decide⟩
/-- Two states with different registers, ports and buffer alike, both of which run. -/
theorem witness_ResultDoesNotDependOnOldRegisters :
    (∃ t : State, runSteps 2 { at6 .idle good6 with inbox := [.pins false true] } = .next t) ∧
      ∃ t : State, runSteps 2 { at6 .idle good6 with inbox := [.pins false true], acc := 0xFFFF, errCode := 7 } = .next t :=
  ⟨⟨_, rfl⟩, ⟨_, rfl⟩⟩
theorem witness_HostReadsTheDecodedResult :
    State.reset.resValid = false ∧ ∃ t : State, (at6 .idle []).transact good6 = .next t := ⟨rfl, _, rfl⟩
/-- Two configurations under which one frame has one result, and the longest and shortest buffer. -/
theorem witness_RegistersDetermineTheResult :
    good6.length ≤ 255 ∧ ([] : List Byte).length ≤ 255 ∧ (List.replicate 255 (0 : Byte)).length ≤ 255 ∧
      regsOf (decodeFrame Cfg.p6 good6) = regsOf (decodeFrame { Cfg.p6 with expectedCid := 0x81 } good6) :=
  ⟨by decide, by decide, List.length_replicate.le, by decide⟩

end Sys2Proof.Tests
end

section
/-! R9 clause by clause: each Boolean check of `Cfg.wf` as the proposition the spec writes, and the refusal of `START`
under a configuration that fails one of them. -/

namespace Sys2Proof.Proofs

open Sys2Proof Sys2Proof.Machine

/-- R9 (d): the values listed for a mask are zero and the eight shifts of one bit. -/
theorem maskOk_iff (m : Byte) : maskOk m = true ↔ m = 0#8 ∨ ∃ k : Nat, k < 8 ∧ m = 1#8 <<< k := by
  constructor
  · intro h
    simp only [maskOk, Bool.or_eq_true, beq_iff_eq, or_assoc] at h
    obtain h0 | h | h | h | h | h | h | h | h := h
    · exact .inl h0
    · exact .inr ⟨0, by decide, h⟩
    · exact .inr ⟨1, by decide, h⟩
    · exact .inr ⟨2, by decide, h⟩
    · exact .inr ⟨3, by decide, h⟩
    · exact .inr ⟨4, by decide, h⟩
    · exact .inr ⟨5, by decide, h⟩
    · exact .inr ⟨6, by decide, h⟩
    · exact .inr ⟨7, by decide, h⟩
  · have shifts : ∀ k < 8, maskOk (1#8 <<< k) = true := by decide
    rintro (rfl | ⟨k, hk, rfl⟩)
    · rfl
    · exact shifts k hk

/-- R9 (a). -/
theorem lenOk_iff (c : Cfg) : c.lenOk = true ↔ c.frameLen.toNat = 6 ∨ c.frameLen.toNat = 7 := by
  simp [Cfg.lenOk, BitVec.toNat_eq]

/-- R9 (b). -/
theorem spanOk_iff (c : Cfg) : c.spanOk = true ↔
    2 ≤ c.csFirst.toNat ∧ c.csFirst.toNat ≤ c.csEnd.toNat ∧ c.csEnd.toNat ≤ c.frameLen.toNat - 1 :=
  decide_eq_true_iff

/-- R9 (c) for one offset. -/
theorem offOk_iff (c : Cfg) (off : BitVec 3) :
    c.offOk off = true ↔ 2 ≤ off.toNat ∧ off.toNat ≤ c.frameLen.toNat - 2 :=
  decide_eq_true_iff

/-- R9 (c). -/
theorem offsetsOk_iff (c : Cfg) : c.offsetsOk = true ↔
    (2 ≤ c.statusOff.toNat ∧ c.statusOff.toNat ≤ c.frameLen.toNat - 2) ∧
    (2 ≤ c.voltHiOff.toNat ∧ c.voltHiOff.toNat ≤ c.frameLen.toNat - 2) ∧
    (2 ≤ c.voltLoOff.toNat ∧ c.voltLoOff.toNat ≤ c.frameLen.toNat - 2) := by
  simp only [Cfg.offsetsOk, Bool.and_eq_true, offOk_iff, and_assoc]

/-- R9 (d). -/
theorem masksOk_iff (c : Cfg) : c.masksOk = true ↔
    ∀ m ∈ [c.maskError, c.maskVolt, c.maskSupport, c.maskDischg],
      m = 0#8 ∨ ∃ k : Nat, k < 8 ∧ m = 1#8 <<< k := by
  simp only [Cfg.masksOk, Bool.and_eq_true, maskOk_iff, and_assoc, List.forall_mem_cons,
    List.not_mem_nil, false_imp_iff, implies_true, and_true]

/-- `CfgWF` is the conjunction of its four clauses (R9). -/
theorem wf_iff_clauses (c : Cfg) :
    c.wf = true ↔ c.lenOk = true ∧ c.spanOk = true ∧ c.offsetsOk = true ∧ c.masksOk = true := by
  simp only [Cfg.wf, Bool.and_eq_true, and_assoc]

/-- R9 (log 8): `START` in `IDLE` gives an ill-formed configuration no meaning. -/
theorem exec_start_illFormed {s : State} (hidle : s.phase = .idle) (hwf : s.cfgPort.wf = false) :
    exec .start s = .refused .illFormedConfig := by
  have harm : exec .start s = execStart s := rfl
  rw [harm]
  obtain ⟨hbusy, -⟩ | ⟨-, -, href⟩ | ⟨-, hok, -⟩ | ⟨-, hok, -⟩ | ⟨-, hok, -⟩ := execStart_cases s
  case inl => exact absurd hidle hbusy
  case inr.inl => exact href
  all_goals simp [hwf] at hok

/-- Settles O18: the four clauses of R9 one by one, and the ill-formed branch of `START`. -/
theorem illFormedConfigurationIsRefused : Obligations.IllFormedConfigurationIsRefused := by
  unfold Obligations.IllFormedConfigurationIsRefused
  constructor
  · intro c
    rw [wf_iff_clauses, lenOk_iff, spanOk_iff, offsetsOk_iff, masksOk_iff]
    simp only [and_assoc]
  · intro s hidle hwf
    exact exec_start_illFormed hidle hwf

end Sys2Proof.Proofs
end

section
/-! The checksum engine: what `fold`, the accumulation and the complement compute (R96 to R98), and the two
micro-operations that begin and end a pass (R107, R109). -/

namespace Sys2Proof.Proofs

open Sys2Proof Sys2Proof.Machine

/-! ## The function -/

/-- R96: the comparison and the subtraction of words are those of the numbers, since `255 ≤ 256 ≤ a` rules out a borrow. -/
theorem fold_toNat (a : BitVec 16) :
    (fold a).toNat = if 256 ≤ a.toNat then a.toNat - 255 else a.toNat := by
  have hle : 256#16 ≤ a ↔ 256 ≤ a.toNat := by simp [BitVec.le_def]
  unfold fold
  by_cases h : 256 ≤ a.toNat
  · have hborrow : 255#16 ≤ a := by rw [BitVec.le_def]; exact Nat.le_of_succ_le h
    rw [if_pos (hle.mpr h), if_pos h, BitVec.toNat_sub_of_le hborrow]
    rfl
  · rw [if_neg (mt hle.mp h), if_neg h]

/-- R98: the bytes are taken in order, so the last one is stepped last. -/
theorem accumulate_append_singleton (seed b : Byte) (data : List Byte) :
    accumulate seed (data ++ [b]) = csStep (accumulate seed data) b :=
  List.foldl_concat csStep (zext16 seed) b data

/-- The complement commutes with taking the low byte, and the low byte of a widened byte is that byte. -/
theorem complementLow_zext16 (b : Byte) : complementLow (zext16 b) = ~~~b := by
  calc complementLow (zext16 b)
      = (~~~(b.setWidth 16)).setWidth 8 := (BitVec.setWidth_eq_extractLsb' (by decide)).symm
    _ = ~~~((b.setWidth 16).setWidth 8) := BitVec.setWidth_not (by decide)
    _ = ~~~b := by rw [BitVec.setWidth_setWidth_of_le b (by decide), BitVec.setWidth_eq]

/-- R98: with no data the accumulator is still the seed. -/
theorem computeChecksum_nil (seed : Byte) : computeChecksum seed [] = ~~~seed :=
  complementLow_zext16 seed

/-- Settles O6: `fold` as numbers, one step, the seed and the order of the bytes, and the complement. -/
theorem checksumFollowsTheAlgorithm : Obligations.ChecksumFollowsTheAlgorithm := by
  unfold Obligations.ChecksumFollowsTheAlgorithm
  refine ⟨fold_toNat, ?step, computeChecksum_nil, ?accumulation, ?complement⟩
  case step => intro acc b; rfl
  case accumulation => intro seed b data; exact ⟨rfl, accumulate_append_singleton seed b data⟩
  case complement => intro seed data; rfl

/-! ## The micro-operations -/

/-- R107: once offset 1 is read, `C_INIT` differs between an empty span and another one in `PHASE` alone. -/
theorem exec_cInit_of_read {s : State} {b : Byte} (h : s.memRead 1 = .ok b) :
    exec .cInit s = .next { s.noteRead with
      acc := b.setWidth 16
      idx := s.cfgR.csFirst
      phase := if s.cfgR.csFirst < s.cfgR.csEnd then .cAdd else .cFin } := by
  have harm : exec .cInit s = execCInit s := rfl
  rw [harm, execCInit, State.withByte_of_read h]

/-- Settles O25: the span is empty or not. -/
theorem cInitSeedsTheAccumulator : Obligations.CInitSeedsTheAccumulator := by
  unfold Obligations.CInitSeedsTheAccumulator
  refine ⟨decodeWord_phase_code .cInit, ?_⟩
  intro s b hread
  constructor
  · intro hspan
    rw [exec_cInit_of_read hread, if_pos hspan]
  · intro hempty
    rw [exec_cInit_of_read hread, if_neg hempty]

/-- Settles O27: `C_FIN` reads no byte, so nothing can stop it. -/
theorem cFinComplementsTheLowByte : Obligations.CFinComplementsTheLowByte := by
  unfold Obligations.CFinComplementsTheLowByte
  refine ⟨decodeWord_phase_code .cFin, ?_⟩
  intro s
  rfl

end Sys2Proof.Proofs
end

section
/-! The frame validator: the checks of the length, the sync byte and the command id, each with what it does once its
operands are known (R118 to R120). -/

namespace Sys2Proof.Proofs

open Sys2Proof Sys2Proof.Machine

/-- R118: `V_LEN` compares two registers, so no read can stop it. -/
theorem exec_vLen (s : State) :
    exec .vLen s =
      if s.lenR ≠ s.cfgR.frameLen.setWidth 8 then .next (s.fail 1#3 (s.cfgR.frameLen.setWidth 8) s.lenR)
      else .next (s.toPhase .vSync) :=
  rfl

/-- R119: once offset 0 is read, `V_SYNC` is a comparison with the sentinel. -/
theorem exec_vSync_of_read {s : State} {b : Byte} (h : s.memRead 0 = .ok b) :
    exec .vSync s =
      if b ≠ 0x55#8 then .next (s.noteRead.fail 2#3 0x55#8 b) else .next (s.noteRead.toPhase .vCid) := by
  have harm : exec .vSync s = execVSync s := rfl
  rw [harm, execVSync, State.withByte_of_read h]
  rfl

/-- R120: once offset 1 is read, `V_CID` fails only where the check is on and the byte differs. -/
theorem exec_vCid_of_read {s : State} {b : Byte} (h : s.memRead 1 = .ok b) :
    exec .vCid s =
      if s.cfgR.cidCheck = true ∧ b ≠ s.cfgR.expectedCid then
        .next (s.noteRead.fail 3#3 s.cfgR.expectedCid b)
      else .next (s.noteRead.toPhase .cInit) := by
  have harm : exec .vCid s = execVCid s := rfl
  rw [harm, execVCid, State.withByte_of_read h]
  rfl

/-- Settles O22: the lengths are equal or not. -/
theorem vLenComparesTheLengths : Obligations.VLenComparesTheLengths := by
  unfold Obligations.VLenComparesTheLengths
  refine ⟨decodeWord_phase_code .vLen, ?_⟩
  intro s
  constructor
  · intro heq
    rw [exec_vLen, if_neg (not_not_intro heq), State.toPhase]
  · intro hne
    rw [exec_vLen, if_pos hne]

/-- Settles O23: the byte read is the sentinel or not. -/
theorem vSyncChecksTheSyncByte : Obligations.VSyncChecksTheSyncByte := by
  unfold Obligations.VSyncChecksTheSyncByte
  refine ⟨decodeWord_phase_code .vSync, ?_⟩
  intro s b hread
  constructor
  · intro heq
    rw [exec_vSync_of_read hread, if_neg (not_not_intro heq), State.toPhase]
  · intro hne
    rw [exec_vSync_of_read hread, if_pos hne]

/-- Settles O24: the check off or met refutes the failing condition of `V_CID`; the check on and failed is that
condition. -/
theorem vCidChecksTheCommandId : Obligations.VCidChecksTheCommandId := by
  unfold Obligations.VCidChecksTheCommandId
  refine ⟨decodeWord_phase_code .vCid, ?_⟩
  intro s b hread
  constructor
  · intro hpass
    have hnofail : ¬ (s.cfgR.cidCheck = true ∧ b ≠ s.cfgR.expectedCid) := by
      rintro ⟨hon, hne⟩
      obtain hoff | heq := hpass
      · simp [hon] at hoff
      · exact hne heq
    rw [exec_vCid_of_read hread, if_neg hnofail, State.toPhase]
  · intro hon hne
    rw [exec_vCid_of_read hread, if_pos ⟨hon, hne⟩]

end Sys2Proof.Proofs
end

section
/-! The bit extractor: one byte under one mask (R140), the four flags of a status byte (R141 to R144), and `X_FLAGS`,
which writes them (R145). -/

namespace Sys2Proof.Proofs

open Sys2Proof Sys2Proof.Machine

/-! ## The function -/

/-- R140, as the spec tests it. -/
@[simp] theorem bitExtract_eq_true_iff (s m : Byte) : bitExtract s m = true ↔ s &&& m ≠ 0#8 :=
  bne_iff_ne

@[simp] theorem bitExtract_eq_false_iff (s m : Byte) : bitExtract s m = false ↔ s &&& m = 0#8 :=
  bne_eq_false_iff_eq

/-- R140, R147: the mask of an absent bit selects nothing. -/
@[simp] theorem bitExtract_zero (s : Byte) : bitExtract s 0#8 = false := by
  rw [bitExtract_eq_false_iff, BitVec.and_zero]

/-- A mask of one bit keeps the whole mask or nothing. -/
theorem and_oneBit (s : Byte) (k : Nat) :
    s &&& 1#8 <<< k = if s.getLsbD k = true then 1#8 <<< k else 0#8 := by
  rw [← BitVec.twoPow_eq, BitVec.and_twoPow]

/-- The bit of a mask lies inside the byte, so it is not shifted out. -/
theorem oneBit_ne_zero : ∀ k < 8, 1#8 <<< k ≠ 0#8 := by decide

theorem and_oneBit_ne_zero_iff (s : Byte) {k : Nat} (hk : k < 8) :
    s &&& 1#8 <<< k ≠ 0#8 ↔ s.getLsbD k = true := by
  rw [and_oneBit]
  split
  case isTrue hset => exact iff_of_true (oneBit_ne_zero k hk) hset
  case isFalse hclear => exact iff_of_false (not_not_intro rfl) hclear

theorem and_oneBit_eq_self_iff (s : Byte) {k : Nat} (hk : k < 8) :
    s &&& 1#8 <<< k = 1#8 <<< k ↔ s.getLsbD k = true := by
  rw [and_oneBit]
  split
  case isTrue hset => exact iff_of_true rfl hset
  case isFalse hclear => exact iff_of_false (oneBit_ne_zero k hk).symm hclear

/-- R140: under `m = 1 << k` the result is bit `k`. -/
theorem bitExtract_oneBit (s : Byte) {k : Nat} (hk : k < 8) : bitExtract s (1#8 <<< k) = s.getLsbD k := by
  rw [Bool.eq_iff_iff, bitExtract_eq_true_iff, and_oneBit_ne_zero_iff s hk]

/-- R140 (D8): a legal non-zero mask has one bit, and both tests ask whether that bit is set. -/
theorem and_ne_zero_iff_and_eq_mask {m : Byte} (s : Byte) (hok : maskOk m = true) (hne : m ≠ 0#8) :
    s &&& m ≠ 0#8 ↔ s &&& m = m := by
  obtain ⟨k, hk, rfl⟩ := ((maskOk_iff m).mp hok).resolve_left hne
  rw [and_oneBit_ne_zero_iff s hk, and_oneBit_eq_self_iff s hk]

/-- Settles O12: the test, the one-bit mask, the absent mask, and the agreement with the other test. -/
theorem bitExtractIsTheMaskedBit : Obligations.BitExtractIsTheMaskedBit := by
  unfold Obligations.BitExtractIsTheMaskedBit
  intro s m
  refine ⟨bitExtract_eq_true_iff s m, ?oneBit, bitExtract_zero s, ?agree⟩
  case oneBit => intro k hk; exact bitExtract_oneBit s hk
  case agree => intro hok hne; exact and_ne_zero_iff_and_eq_mask s hok hne

/-! ## The four flags -/

/-- R143: a masked bit that means "supported" is the flag. -/
theorem flagIsSupported_of_supportInv_false {cfg : Cfg} (s : Byte) (h : cfg.supportInv = false) :
    flagIsSupported cfg s = bitExtract s cfg.maskSupport := by
  rw [flagIsSupported, h, Bool.xor_false]

/-- R143: a masked bit that means "not supported" is the flag's opposite. -/
theorem flagIsSupported_of_supportInv_true {cfg : Cfg} (s : Byte) (h : cfg.supportInv = true) :
    flagIsSupported cfg s = !bitExtract s cfg.maskSupport := by
  rw [flagIsSupported, h, Bool.xor_true]

/-- R143, R147: without a support bit the polarity alone answers. -/
theorem flagIsSupported_of_maskSupport_zero {cfg : Cfg} (s : Byte) (h : cfg.maskSupport = 0#8) :
    flagIsSupported cfg s = cfg.supportInv := by
  rw [flagIsSupported, h, bitExtract_zero, Bool.false_xor]

/-- Settles O13: three flags are a `bitExtract` as it stands; the support flag is taken by polarity, then by the absent
mask. -/
theorem flagsFollowTheirMasks : Obligations.FlagsFollowTheirMasks := by
  unfold Obligations.FlagsFollowTheirMasks
  intro cfg s
  refine ⟨bitExtract_eq_true_iff s _, bitExtract_eq_true_iff s _, ?supported, ?notSupported,
    flagIsSupported_of_maskSupport_zero s, bitExtract_eq_true_iff s _⟩
  case supported =>
    intro hinv
    rw [flagIsSupported_of_supportInv_false s hinv, bitExtract_eq_true_iff]
  case notSupported =>
    intro hinv
    rw [flagIsSupported_of_supportInv_true s hinv, Bool.not_eq_true', bitExtract_eq_false_iff]

/-! ## The micro-operation -/

/-- R145: once the status byte is read, `X_FLAGS` writes the four flags of that byte and goes on to `X_VOLT`. -/
theorem exec_xFlags_of_read {s : State} {b : Byte} (h : s.memRead s.cfgR.statusOff.toNat = .ok b) :
    exec .xFlags s = .next { s.noteRead with
      hasError := flagHasError s.cfgR b
      voltFlag := flagVolt s.cfgR b
      isSupported := flagIsSupported s.cfgR b
      dischg := flagDischarge s.cfgR b
      phase := .xVolt } := by
  have harm : exec .xFlags s = execXFlags s := rfl
  rw [harm, execXFlags, State.withByte_of_read h]

/-- Settles O29: the flags of the byte read, each written out as its `bitExtract`. -/
theorem xFlagsExtractsFourFlags : Obligations.XFlagsExtractsFourFlags := by
  unfold Obligations.XFlagsExtractsFourFlags
  refine ⟨decodeWord_phase_code .xFlags, ?_⟩
  intro s b hread
  rw [exec_xFlags_of_read hread, flagHasError, flagVolt, flagIsSupported, flagDischarge]

end Sys2Proof.Proofs
end

section
/-! The voltage decoder: the two bytes as one number (R155), the successful end shared by `X_VOLT` and `ERR_NONE` once
both bytes are read, and `X_VOLT` itself (R156). -/

namespace Sys2Proof.Proofs

open Sys2Proof Sys2Proof.Machine

/-! ## The function -/

/-- R155: the low byte stays below the high byte's weight of 256, so the concatenation adds the two without overlap. -/
theorem voltageDecode_toNat (hi lo : Byte) : (voltageDecode hi lo).toNat = 256 * hi.toNat + lo.toNat := by
  calc (voltageDecode hi lo).toNat
      = hi.toNat <<< 8 ||| lo.toNat := BitVec.toNat_append hi lo
    _ = hi.toNat <<< 8 + lo.toNat := (Nat.shiftLeft_add_eq_or_of_lt lo.isLt hi.toNat).symm
    _ = 256 * hi.toNat + lo.toNat := by rw [Nat.shiftLeft_eq, Nat.mul_comm]

/-- Settles O14: the concatenation is the definition; its number is the weighted sum. -/
theorem voltageIsHighByteThenLow : Obligations.VoltageIsHighByteThenLow := by
  unfold Obligations.VoltageIsHighByteThenLow
  intro hi lo
  exact ⟨rfl, voltageDecode_toNat hi lo⟩

/-! ## The micro-operation -/

/-- R156: once both bytes are read, the high one first, nothing can stop the successful end. -/
theorem completeOk_of_reads {s : State} {hi lo : Byte} (hhi : s.memRead s.cfgR.voltHiOff.toNat = .ok hi)
    (hlo : s.noteRead.memRead s.cfgR.voltLoOff.toNat = .ok lo) :
    s.completeOk = .next (s.noteRead.noteRead.succeed (voltageDecode hi lo)) := by
  rw [State.completeOk, State.withByte_of_read hhi, State.withByte_of_read hlo]

/-- R156: `X_VOLT` is the successful end. -/
theorem exec_xVolt (s : State) : exec .xVolt s = s.completeOk := rfl

/-- Settles O30: both reads answer, so the transaction ends with their voltage. -/
theorem xVoltCompletesTheTransaction : Obligations.XVoltCompletesTheTransaction := by
  unfold Obligations.XVoltCompletesTheTransaction
  refine ⟨decodeWord_phase_code .xVolt, ?_⟩
  intro s hi lo hhi hlo
  rw [exec_xVolt, completeOk_of_reads hhi hlo]
  rfl

end Sys2Proof.Proofs
end

section
/-! The error path: what `decode` answers for a frame that fails a check, one equation per check in the order of R191,
and the procedure `fail` (R193). -/

namespace Sys2Proof.Proofs

open Sys2Proof Sys2Proof.Machine

/-! ## The checks of `decode` in their order -/

section

variable {cfg : Cfg} {f : List Byte}

/-- R116 step 1: the length is compared before any byte. -/
theorem decodeFrame_of_wrongLength (hlen : f.length ≠ cfg.frameLen.toNat) :
    decodeFrame cfg f = .err (.lengthMismatch cfg.frameLen.toNat f.length) :=
  if_pos hlen

/-- R116 step 2: the sync byte is compared before the command id. -/
theorem decodeFrame_of_wrongSync (hlen : f.length = cfg.frameLen.toNat) (hsync : byteAt f 0 ≠ 0x55#8) :
    decodeFrame cfg f = .err (.badSync (byteAt f 0)) := by
  rw [decodeFrame, if_neg (not_not_intro hlen)]
  exact if_pos hsync

/-- R116 step 3: the command id, where it is checked, is compared before the checksum. -/
theorem decodeFrame_of_wrongCommandId (hlen : f.length = cfg.frameLen.toNat) (hsync : byteAt f 0 = 0x55#8)
    (hcheck : cfg.cidCheck = true) (hcid : byteAt f 1 ≠ cfg.expectedCid) :
    decodeFrame cfg f = .err (.badCommandId cfg.expectedCid (byteAt f 1)) := by
  rw [decodeFrame, if_neg (not_not_intro hlen), if_neg (not_not_intro hsync)]
  exact if_pos ⟨hcheck, hcid⟩

/-- R116 step 4: the checksum is compared last. -/
theorem decodeFrame_of_wrongChecksum (hlen : f.length = cfg.frameLen.toNat) (hsync : byteAt f 0 = 0x55#8)
    (hcid : cfg.cidCheck = true → byteAt f 1 = cfg.expectedCid)
    (hsum : frameChecksum cfg f ≠ byteAt f (f.length - 1)) :
    decodeFrame cfg f = .err (.checksumMismatch (frameChecksum cfg f) (byteAt f (f.length - 1))) := by
  have hcidPasses : ¬ (cfg.cidCheck = true ∧ byteAt f 1 ≠ cfg.expectedCid) :=
    fun ⟨hcheck, hne⟩ => hne (hcid hcheck)
  rw [decodeFrame, if_neg (not_not_intro hlen), if_neg (not_not_intro hsync), if_neg hcidPasses]
  exact if_pos hsum

end

/-- Settles O15: each check in turn, the ones before it passed. -/
theorem firstFailingCheckIsReported : Obligations.FirstFailingCheckIsReported := by
  unfold Obligations.FirstFailingCheckIsReported
  intro cfg f
  exact ⟨decodeFrame_of_wrongLength, decodeFrame_of_wrongSync, decodeFrame_of_wrongCommandId,
    decodeFrame_of_wrongChecksum⟩

/-! ## Recording the failure -/

/-- Settles O21: the ten fields R193 lists and `PHASE` are the ones the definition of `fail` writes. -/
theorem failRecordsTheError : Obligations.FailRecordsTheError := by
  unfold Obligations.FailRecordsTheError
  intro s code d0 d1
  rfl

end Sys2Proof.Proofs
end

section
/-! The reset pin in a step (R215): with `rst` asserted neither `start` nor `PHASE` is looked at. -/

namespace Sys2Proof.Proofs

open Sys2Proof Sys2Proof.Machine

/-- R215: asserted `rst` wins over `start` and over the sequencer. -/
@[simp] theorem samplePins_rst (start : Bool) (s : State) : samplePins true start s = .next s.resetPin := rfl

/-- R215: a step whose move asserts `rst` is the reset of the state with that move taken off the inbox. -/
theorem step_of_inbox_rst {s : State} {start : Bool} {rest : List HostMove} (h : s.inbox = .pins true start :: rest) :
    step s = .next (s.withInbox rest).resetPin := by
  calc step s
      = runMove (.pins true start) (s.withInbox rest) := step_of_inbox_cons h
    _ = samplePins true start (s.withInbox rest) := rfl
    _ = .next (s.withInbox rest).resetPin := samplePins_rst start _

/-- Settles O42: the next state is the reset one; R215 gives its `PHASE` and `RES_VALID`, and R216 leaves the buffer and
the ports to the host. -/
theorem resetPinWinsOverStart : Obligations.ResetPinWinsOverStart := by
  unfold Obligations.ResetPinWinsOverStart
  intro s start rest hin
  refine ⟨(s.withInbox rest).resetPin, step_of_inbox_rst hin, State.resetPin_phase _, State.resetPin_resValid _,
    ?buffer, ?cfgPort, ?lenPort, ?inbox⟩
  case buffer => rw [State.resetPin_fb, State.withInbox_fb]
  case cfgPort => rw [State.resetPin_cfgPort, State.withInbox_cfgPort]
  case lenPort => rw [State.resetPin_lenPort, State.withInbox_lenPort]
  case inbox => rw [State.resetPin_inbox, State.withInbox_inbox]

end Sys2Proof.Proofs
end

section
/-! The checksum as a number (R101 to R106): what a step, an accumulation and the complement are as natural numbers,
and the closed form from which the rules about the extremes, the order and congruent sums follow. -/

namespace Sys2Proof.Proofs

open Sys2Proof Sys2Proof.Machine

/-! ## One step -/

theorem zext16_toNat (b : Byte) : (zext16 b).toNat = b.toNat := BitVec.toNat_setWidth_of_le (by decide)

theorem zext16_le (b : Byte) : (zext16 b).toNat ≤ 255 := by
  rw [zext16_toNat]
  omega

/-- R97 on a byte accumulator: the sum fits 16 bits, so the step adds and takes off 255 where the sum passes a byte. -/
theorem csStep_toNat {acc : BitVec 16} (b : Byte) (hacc : acc.toNat ≤ 255) :
    (csStep acc b).toNat =
      if 256 ≤ acc.toNat + b.toNat then acc.toNat + b.toNat - 255 else acc.toNat + b.toNat := by
  have hsum : (acc + zext16 b).toNat = acc.toNat + b.toNat := by
    rw [BitVec.toNat_add_of_lt (by rw [zext16_toNat]; omega), zext16_toNat]
  rw [csStep, fold_toNat, hsum]

/-- R101. -/
theorem csStep_le {acc : BitVec 16} (b : Byte) (hacc : acc.toNat ≤ 255) : (csStep acc b).toNat ≤ 255 := by
  rw [csStep_toNat b hacc]
  split <;> omega

/-- R102: taking off 255 is adding the carry out of bit 7 to the low byte. -/
theorem csStep_eq_endAroundCarry {acc : BitVec 16} (b : Byte) (hacc : acc.toNat ≤ 255) :
    csStep acc b =
      ((acc + b.setWidth 16).extractLsb' 0 8).setWidth 16 + ((acc + b.setWidth 16).extractLsb' 8 1).setWidth 16 := by
  apply BitVec.eq_of_toNat_eq
  rw [csStep_toNat b hacc]
  simp only [BitVec.toNat_add, BitVec.toNat_setWidth, BitVec.extractLsb'_toNat, Nat.shiftRight_eq_div_pow]
  split <;> omega

/-! ## The accumulation and the complement -/

theorem foldl_csStep_le {acc : BitVec 16} (data : List Byte) (hacc : acc.toNat ≤ 255) :
    (data.foldl csStep acc).toNat ≤ 255 := by
  induction data generalizing acc with
  | nil => exact hacc
  | cons b data ih => exact ih (csStep_le b hacc)

/-- R101 over a whole span. -/
theorem accumulate_le (seed : Byte) (data : List Byte) : (accumulate seed data).toNat ≤ 255 :=
  foldl_csStep_le data (zext16_le seed)

theorem complementLow_toNat {acc : BitVec 16} (hacc : acc.toNat ≤ 255) :
    (complementLow acc).toNat = 255 - acc.toNat := by
  simp only [complementLow, BitVec.extractLsb'_toNat, BitVec.toNat_not, Nat.shiftRight_zero]
  omega

/-- R102: the complement of a byte is its distance from 255. -/
theorem computeChecksum_toNat (seed : Byte) (data : List Byte) :
    (computeChecksum seed data).toNat = 255 - (accumulate seed data).toNat :=
  complementLow_toNat (accumulate_le seed data)

/-- Settles O7: one step, then the whole accumulation. -/
theorem accumulatorStaysAByte : Obligations.AccumulatorStaysAByte := by
  unfold Obligations.AccumulatorStaysAByte
  constructor
  · intro acc b hacc
    refine ⟨csStep_le b hacc, fun hfolds => ?_, csStep_eq_endAroundCarry b hacc⟩
    rw [csStep_toNat b hacc, if_pos hfolds]
    omega
  · intro seed data
    exact ⟨accumulate_le seed data, computeChecksum_toNat seed data⟩

/-! ## The closed form -/

/-- `S` of R103: the plain sum of the seed and the data bytes. -/
def plainSum (seed : Byte) (data : List Byte) : Nat := seed.toNat + (data.map BitVec.toNat).sum

theorem plainSum_append_singleton (seed b : Byte) (data : List Byte) :
    plainSum seed (data ++ [b]) = plainSum seed data + b.toNat := by
  simp [plainSum, Nat.add_assoc]

theorem plainSum_eq_zero_iff (seed : Byte) (data : List Byte) :
    plainSum seed data = 0 ↔ seed = 0#8 ∧ ∀ b ∈ data, b = 0#8 := by
  simp [plainSum, List.sum_eq_zero_iff, BitVec.toNat_eq]

/-- R103 for the accumulator: the representative of the sum modulo 255 in `1 .. 255`, or 0 for the sum 0. -/
theorem accumulate_toNat (seed : Byte) (data : List Byte) :
    (accumulate seed data).toNat =
      if plainSum seed data = 0 then 0 else (plainSum seed data - 1) % 255 + 1 := by
  induction data using List.reverseRecOn with
  | nil =>
    have hseed : (accumulate seed []).toNat = seed.toNat := zext16_toNat seed
    have hsum : plainSum seed [] = seed.toNat := rfl
    rw [hseed, hsum]
    split <;> omega
  | append_singleton data b ih =>
    rw [accumulate_append_singleton, csStep_toNat b (accumulate_le seed data), ih, plainSum_append_singleton]
    have hb := b.isLt
    by_cases h0 : plainSum seed data = 0
    · simp only [h0, if_true]
      split_ifs <;> omega
    · simp only [h0, if_false]
      split_ifs <;> omega

/-- R103. -/
theorem computeChecksum_closedForm (seed : Byte) (data : List Byte) :
    (computeChecksum seed data).toNat =
      if plainSum seed data = 0 then 255 else 254 - (plainSum seed data - 1) % 255 := by
  rw [computeChecksum_toNat, accumulate_toNat]
  split <;> omega

/-- Settles O8. -/
theorem checksumHasTheClosedForm : Obligations.ChecksumHasTheClosedForm := by
  unfold Obligations.ChecksumHasTheClosedForm
  exact computeChecksum_closedForm

/-- Settles O10: each value of the checksum as a number, by the closed form. -/
theorem checksumExtremesAreCharacterised : Obligations.ChecksumExtremesAreCharacterised := by
  unfold Obligations.ChecksumExtremesAreCharacterised
  intro seed data
  have hsum : seed.toNat + (data.map BitVec.toNat).sum = plainSum seed data := rfl
  rw [← plainSum_eq_zero_iff, hsum, BitVec.toNat_eq, BitVec.toNat_eq, computeChecksum_closedForm]
  simp only [BitVec.toNat_ofNat]
  constructor
  · split <;> omega
  · split <;> omega

/-- R103, R106: equal sums, or non-zero ones congruent modulo 255, give one checksum. -/
theorem computeChecksum_congr {seed seed' : Byte} {d d' : List Byte}
    (hzero : plainSum seed d = 0 ↔ plainSum seed' d' = 0) (hmod : plainSum seed d % 255 = plainSum seed' d' % 255) :
    computeChecksum seed d = computeChecksum seed' d' := by
  apply BitVec.eq_of_toNat_eq
  rw [computeChecksum_closedForm, computeChecksum_closedForm]
  by_cases h0 : plainSum seed d = 0
  · rw [if_pos h0, if_pos (hzero.mp h0)]
  · rw [if_neg h0, if_neg (mt hzero.mpr h0)]
    have h0' := mt hzero.mpr h0
    omega

/-- Settles O11: a permutation has the same sum; two positive sums are both not zero. -/
theorem checksumMissesReorderingAndCongruentSums : Obligations.ChecksumMissesReorderingAndCongruentSums := by
  unfold Obligations.ChecksumMissesReorderingAndCongruentSums
  constructor
  · intro seed d d' hperm
    have hsum : plainSum seed d = plainSum seed d' := by rw [plainSum, plainSum, (hperm.map _).sum_eq]
    exact computeChecksum_congr (by rw [hsum]) (by rw [hsum])
  · intro seed seed' d d' hpos hpos' hmod
    exact computeChecksum_congr (iff_of_false hpos.ne' hpos'.ne') hmod

/-! ## Folds -/

/-- R104: each fold takes off 255 where wraparound would take off 256. -/
theorem foldl_csStep_toNat {acc : BitVec 16} (data : List Byte) (hacc : acc.toNat ≤ 255) :
    (data.foldl csStep acc).toNat = (acc.toNat + (data.map BitVec.toNat).sum + foldCount acc data) % 256 := by
  induction data generalizing acc with
  | nil =>
    have hnone : foldCount acc [] = 0 := rfl
    simp only [List.foldl_nil, List.map_nil, List.sum_nil, hnone]
    omega
  | cons b data ih =>
    have hfolds : 256#16 ≤ acc + zext16 b ↔ 256 ≤ acc.toNat + b.toNat := by
      have hb := b.isLt
      simp only [BitVec.le_def, BitVec.toNat_add, BitVec.toNat_setWidth, BitVec.toNat_ofNat]
      omega
    simp only [List.foldl_cons, List.map_cons, List.sum_cons, foldCount, hfolds]
    rw [ih (csStep_le b hacc), csStep_toNat b hacc]
    split_ifs <;> omega

theorem foldCount_le_length (acc : BitVec 16) (data : List Byte) : foldCount acc data ≤ data.length := by
  induction data generalizing acc with
  | nil => exact Nat.le_refl 0
  | cons b data ih =>
    have := ih (csStep acc b)
    simp only [foldCount, List.length_cons]
    split_ifs <;> omega

theorem accumulate_toNat_mod (seed : Byte) (data : List Byte) :
    (accumulate seed data).toNat = (plainSum seed data + foldCount (seed.setWidth 16) data) % 256 := by
  rw [accumulate, foldl_csStep_toNat data (zext16_le seed), zext16_toNat, plainSum]

/-- Settles O9: between 1 and 255 folds the accumulator is not the sum modulo 256, so the complements differ. -/
theorem checksumIsNotModulo256 : Obligations.ChecksumIsNotModulo256 := by
  unfold Obligations.ChecksumIsNotModulo256
  refine ⟨accumulate_toNat_mod, fun seed data hlen hfolds => ?_, by decide⟩
  have hsum : seed.toNat + (data.map BitVec.toNat).sum = plainSum seed data := rfl
  have hfew := foldCount_le_length (seed.setWidth 16) data
  rw [hsum, computeChecksum_toNat, accumulate_toNat_mod]
  omega

end Sys2Proof.Proofs
end

section
/-! What one micro-operation of the sequencer can do, said once (R107 to R109, R118 to R121, R145, R156, R166): the
inversion of `exec` over the ten phases, and what every one of them keeps. The two micro-operations whose equation no
earlier part states, `C_ADD` (R108) and `V_CSUM` (R121), come first. -/

namespace Sys2Proof.Proofs

open Sys2Proof Sys2Proof.Machine

/-! ## `C_ADD` and `V_CSUM` -/

/-- R108: once the byte at `IDX` is read, the end of the span decides the next phase alone. -/
theorem exec_cAdd_of_read {s : State} {b : Byte} (h : s.memRead s.idx.toNat = .ok b) :
    exec .cAdd s = .next { s.noteRead with
      acc := csStep s.acc b
      idx := s.idx + 1
      phase := if s.idx.toNat + 1 < s.cfgR.csEnd.toNat then .cAdd else .cFin } := by
  have harm : exec .cAdd s = execCAdd s := rfl
  rw [harm, execCAdd, State.withByte_of_read h]

/-- R121: once the last byte is read, `V_CSUM` is a comparison with `CSUM`. -/
theorem exec_vCsum_of_read {s : State} {r : Byte} (h : s.memRead (lastOff s.cfgR) = .ok r) :
    exec .vCsum s =
      if s.csum ≠ r then .next (s.noteRead.fail 4#3 s.csum r) else .next (s.noteRead.toPhase .xFlags) := by
  have harm : exec .vCsum s = execVCsum s := rfl
  rw [harm, execVCsum, State.withByte_of_read h]
  rfl

/-- Settles O26: one more byte of the span is left or not. -/
theorem cAddFoldsOneByte : Obligations.CAddFoldsOneByte := by
  unfold Obligations.CAddFoldsOneByte
  refine ⟨decodeWord_phase_code .cAdd, fun s b hread => ⟨fun hmore => ?_, fun hlast => ?_⟩⟩
  · rw [exec_cAdd_of_read hread, if_pos hmore, csStep]
  · rw [exec_cAdd_of_read hread, if_neg (Nat.not_lt.mpr hlast), csStep]

/-- Settles O28: `CSUM` is the last byte or not. -/
theorem vCsumComparesTheChecksums : Obligations.VCsumComparesTheChecksums := by
  unfold Obligations.VCsumComparesTheChecksums
  refine ⟨decodeWord_phase_code .vCsum, fun s r hread => ⟨fun heq => ?_, fun hne => ?_⟩⟩
  · rw [exec_vCsum_of_read hread, if_neg (not_not_intro heq), State.toPhase]
  · rw [exec_vCsum_of_read hread, if_pos hne]

/-! ## A read that faults -/

section

variable {s : State} {f : Fault}

theorem exec_vSync_of_fault (h : s.memRead 0 = .error f) : exec .vSync s = .fault f :=
  show execVSync s = .fault f from State.withByte_of_fault h
theorem exec_vCid_of_fault (h : s.memRead 1 = .error f) : exec .vCid s = .fault f :=
  show execVCid s = .fault f from State.withByte_of_fault h
theorem exec_cInit_of_fault (h : s.memRead 1 = .error f) : exec .cInit s = .fault f :=
  show execCInit s = .fault f from State.withByte_of_fault h
theorem exec_cAdd_of_fault (h : s.memRead s.idx.toNat = .error f) : exec .cAdd s = .fault f :=
  show execCAdd s = .fault f from State.withByte_of_fault h
theorem exec_vCsum_of_fault (h : s.memRead (lastOff s.cfgR) = .error f) : exec .vCsum s = .fault f :=
  show execVCsum s = .fault f from State.withByte_of_fault h
theorem exec_xFlags_of_fault (h : s.memRead s.cfgR.statusOff.toNat = .error f) : exec .xFlags s = .fault f :=
  show execXFlags s = .fault f from State.withByte_of_fault h
theorem exec_badSync_of_fault (h : s.memRead 0 = .error f) : exec .badSync s = .fault f :=
  show execBadSync s = .fault f from State.withByte_of_fault h
theorem exec_badCommandId_of_fault (h : s.memRead 1 = .error f) : exec .badCommandId s = .fault f :=
  show execBadCommandId s = .fault f from State.withByte_of_fault h
theorem exec_checksumMismatch_of_fault (h : s.memRead (lastOff s.cfgR) = .error f) :
    exec .checksumMismatch s = .fault f :=
  show execChecksumMismatch s = .fault f from State.withByte_of_fault h

/-- R156: the high byte is read first. -/
theorem completeOk_of_fault_hi (h : s.memRead s.cfgR.voltHiOff.toNat = .error f) : s.completeOk = .fault f :=
  State.withByte_of_fault h

theorem completeOk_of_fault_lo {hi : Byte} (hhi : s.memRead s.cfgR.voltHiOff.toNat = .ok hi)
    (hlo : s.noteRead.memRead s.cfgR.voltLoOff.toNat = .error f) : s.completeOk = .fault f := by
  rw [State.completeOk, State.withByte_of_read hhi]
  exact State.withByte_of_fault hlo

end

/-- Settles O35: the instructions in the order of their reads; `ERR_NONE` and `X_VOLT` are one operation. -/
theorem faultingReadStopsTheInstruction : Obligations.FaultingReadStopsTheInstruction := by
  unfold Obligations.FaultingReadStopsTheInstruction
  intro s f
  refine ⟨?sync, ?cid, exec_cAdd_of_fault, ?last, exec_xFlags_of_fault, ?voltage⟩
  case sync =>
    intro h
    simp only [List.forall_mem_cons, List.not_mem_nil, false_imp_iff, implies_true, and_true]
    exact ⟨exec_vSync_of_fault h, exec_badSync_of_fault h⟩
  case cid =>
    intro h
    simp only [List.forall_mem_cons, List.not_mem_nil, false_imp_iff, implies_true, and_true]
    exact ⟨exec_vCid_of_fault h, exec_cInit_of_fault h, exec_badCommandId_of_fault h⟩
  case last =>
    intro h
    simp only [List.forall_mem_cons, List.not_mem_nil, false_imp_iff, implies_true, and_true]
    exact ⟨exec_vCsum_of_fault h, exec_checksumMismatch_of_fault h⟩
  case voltage =>
    simp only [List.forall_mem_cons, List.not_mem_nil, false_imp_iff, implies_true, and_true]
    exact ⟨⟨completeOk_of_fault_hi, fun _ => completeOk_of_fault_lo⟩,
      ⟨completeOk_of_fault_hi, fun _ => completeOk_of_fault_lo⟩⟩

/-! ## The rows of the transition table with their effects -/

/-- `MicroStep s p t`: the micro-operation of phase `p` takes `s` to `t`. One constructor for each row of the transition
table (R170), with the condition of the row and the whole next state. -/
inductive MicroStep (s : State) : Phase → State → Prop
  | hold : MicroStep s .idle s
  | lengthPasses (h : s.lenR = s.cfgR.frameLen.setWidth 8) : MicroStep s .vLen (s.toPhase .vSync)
  | lengthFails (h : s.lenR ≠ s.cfgR.frameLen.setWidth 8) :
      MicroStep s .vLen (s.fail 1#3 (s.cfgR.frameLen.setWidth 8) s.lenR)
  | syncPasses (hread : s.memRead 0 = .ok 0x55#8) : MicroStep s .vSync (s.noteRead.toPhase .vCid)
  | syncFails {b : Byte} (hread : s.memRead 0 = .ok b) (h : b ≠ 0x55#8) :
      MicroStep s .vSync (s.noteRead.fail 2#3 0x55#8 b)
  | cidPasses {b : Byte} (hread : s.memRead 1 = .ok b) (h : s.cfgR.cidCheck = true → b = s.cfgR.expectedCid) :
      MicroStep s .vCid (s.noteRead.toPhase .cInit)
  | cidFails {b : Byte} (hread : s.memRead 1 = .ok b) (hcheck : s.cfgR.cidCheck = true) (h : b ≠ s.cfgR.expectedCid) :
      MicroStep s .vCid (s.noteRead.fail 3#3 s.cfgR.expectedCid b)
  | spanBegins {b : Byte} (hread : s.memRead 1 = .ok b) (h : s.cfgR.csFirst.toNat < s.cfgR.csEnd.toNat) :
      MicroStep s .cInit { s.noteRead with acc := b.setWidth 16, idx := s.cfgR.csFirst, phase := .cAdd }
  | spanIsEmpty {b : Byte} (hread : s.memRead 1 = .ok b) (h : s.cfgR.csEnd.toNat ≤ s.cfgR.csFirst.toNat) :
      MicroStep s .cInit { s.noteRead with acc := b.setWidth 16, idx := s.cfgR.csFirst, phase := .cFin }
  | spanGoesOn {b : Byte} (hread : s.memRead s.idx.toNat = .ok b) (h : s.idx.toNat + 1 < s.cfgR.csEnd.toNat) :
      MicroStep s .cAdd { s.noteRead with acc := csStep s.acc b, idx := s.idx + 1, phase := .cAdd }
  | spanEnds {b : Byte} (hread : s.memRead s.idx.toNat = .ok b) (h : s.cfgR.csEnd.toNat ≤ s.idx.toNat + 1) :
      MicroStep s .cAdd { s.noteRead with acc := csStep s.acc b, idx := s.idx + 1, phase := .cFin }
  | complements : MicroStep s .cFin { s with csum := complementLow s.acc, phase := .vCsum }
  | checksumPasses (hread : s.memRead (lastOff s.cfgR) = .ok s.csum) :
      MicroStep s .vCsum (s.noteRead.toPhase .xFlags)
  | checksumFails {r : Byte} (hread : s.memRead (lastOff s.cfgR) = .ok r) (h : s.csum ≠ r) :
      MicroStep s .vCsum (s.noteRead.fail 4#3 s.csum r)
  | flags {b : Byte} (hread : s.memRead s.cfgR.statusOff.toNat = .ok b) :
      MicroStep s .xFlags { s.noteRead with
        hasError := flagHasError s.cfgR b
        voltFlag := flagVolt s.cfgR b
        isSupported := flagIsSupported s.cfgR b
        dischg := flagDischarge s.cfgR b
        phase := .xVolt }
  | voltage {hi lo : Byte} (hhi : s.memRead s.cfgR.voltHiOff.toNat = .ok hi)
      (hlo : s.noteRead.memRead s.cfgR.voltLoOff.toNat = .ok lo) :
      MicroStep s .xVolt (s.noteRead.noteRead.succeed (voltageDecode hi lo))

/-- Every row is what `exec` does. -/
theorem MicroStep.exec_eq {s t : State} {p : Phase} (h : MicroStep s p t) : exec p.instr s = .next t := by
  cases h with
  | hold => rfl
  | lengthPasses h => exact (exec_vLen s).trans (if_neg (not_not_intro h))
  | lengthFails h => exact (exec_vLen s).trans (if_pos h)
  | syncPasses hread => exact (exec_vSync_of_read hread).trans (if_neg (not_not_intro rfl))
  | syncFails hread h => exact (exec_vSync_of_read hread).trans (if_pos h)
  | cidPasses hread h => exact (exec_vCid_of_read hread).trans (if_neg fun hc => hc.2 (h hc.1))
  | cidFails hread hcheck h => exact (exec_vCid_of_read hread).trans (if_pos ⟨hcheck, h⟩)
  | spanBegins hread h => exact (exec_cInit_of_read hread).trans (by rw [if_pos (BitVec.lt_def.mpr h)])
  | spanIsEmpty hread h => exact (exec_cInit_of_read hread).trans (by rw [if_neg (mt BitVec.lt_def.mp h.not_gt)])
  | spanGoesOn hread h => exact (exec_cAdd_of_read hread).trans (by rw [if_pos h])
  | spanEnds hread h => exact (exec_cAdd_of_read hread).trans (by rw [if_neg h.not_gt])
  | complements => rfl
  | checksumPasses hread => exact (exec_vCsum_of_read hread).trans (if_neg (not_not_intro rfl))
  | checksumFails hread h => exact (exec_vCsum_of_read hread).trans (if_pos h)
  | flags hread => exact exec_xFlags_of_read hread
  | voltage hhi hlo => exact completeOk_of_reads hhi hlo

/-! ## Every micro-operation is one of the rows -/

section

variable {s : State} {b : Byte}

theorem exists_vLen (s : State) : ∃ t : State, MicroStep s .vLen t := by
  by_cases h : s.lenR = s.cfgR.frameLen.setWidth 8
  · exact ⟨_, .lengthPasses h⟩
  · exact ⟨_, .lengthFails h⟩

theorem exists_vSync (hread : s.memRead 0 = .ok b) : ∃ t : State, MicroStep s .vSync t := by
  by_cases h : b = 0x55#8
  · exact ⟨_, .syncPasses (h ▸ hread)⟩
  · exact ⟨_, .syncFails hread h⟩

theorem exists_vCid (hread : s.memRead 1 = .ok b) : ∃ t : State, MicroStep s .vCid t := by
  by_cases h : s.cfgR.cidCheck = true → b = s.cfgR.expectedCid
  · exact ⟨_, .cidPasses hread h⟩
  · obtain ⟨hcheck, hne⟩ := Classical.not_imp.mp h
    exact ⟨_, .cidFails hread hcheck hne⟩

theorem exists_cInit (hread : s.memRead 1 = .ok b) : ∃ t : State, MicroStep s .cInit t := by
  by_cases h : s.cfgR.csFirst.toNat < s.cfgR.csEnd.toNat
  · exact ⟨_, .spanBegins hread h⟩
  · exact ⟨_, .spanIsEmpty hread (Nat.not_lt.mp h)⟩

theorem exists_cAdd (hread : s.memRead s.idx.toNat = .ok b) : ∃ t : State, MicroStep s .cAdd t := by
  by_cases h : s.idx.toNat + 1 < s.cfgR.csEnd.toNat
  · exact ⟨_, .spanGoesOn hread h⟩
  · exact ⟨_, .spanEnds hread (Nat.not_lt.mp h)⟩

theorem exists_vCsum (hread : s.memRead (lastOff s.cfgR) = .ok b) : ∃ t : State, MicroStep s .vCsum t := by
  by_cases h : s.csum = b
  · exact ⟨_, .checksumPasses (h ▸ hread)⟩
  · exact ⟨_, .checksumFails hread h⟩

end

/-- A read whose fault would have stopped the operation succeeded if the operation answers a next state. -/
theorem memRead_of_next {s t : State} {off : Nat} {o : Outcome}
    (hstop : ∀ f : Fault, s.memRead off = .error f → o = .fault f) (h : o = .next t) : ∃ b : Byte, s.memRead off = .ok b := by
  cases hread : s.memRead off with
  | ok b => exact ⟨b, rfl⟩
  | error f => cases (hstop f hread).symm.trans h

/-- If a micro-operation answers a next state, its reads succeeded, and it is one of the rows. -/
theorem exists_microStep_of_exec {s t : State} {p : Phase} (h : exec p.instr s = .next t) :
    ∃ t' : State, MicroStep s p t' := by
  cases p with
  | idle => exact ⟨s, .hold⟩
  | vLen => exact exists_vLen s
  | vSync =>
    obtain ⟨b, hread⟩ := memRead_of_next (fun _ => exec_vSync_of_fault) h
    exact exists_vSync hread
  | vCid =>
    obtain ⟨b, hread⟩ := memRead_of_next (fun _ => exec_vCid_of_fault) h
    exact exists_vCid hread
  | cInit =>
    obtain ⟨b, hread⟩ := memRead_of_next (fun _ => exec_cInit_of_fault) h
    exact exists_cInit hread
  | cAdd =>
    obtain ⟨b, hread⟩ := memRead_of_next (fun _ => exec_cAdd_of_fault) h
    exact exists_cAdd hread
  | cFin => exact ⟨_, .complements⟩
  | vCsum =>
    obtain ⟨b, hread⟩ := memRead_of_next (fun _ => exec_vCsum_of_fault) h
    exact exists_vCsum hread
  | xFlags =>
    obtain ⟨b, hread⟩ := memRead_of_next (fun _ => exec_xFlags_of_fault) h
    exact ⟨_, .flags hread⟩
  | xVolt =>
    obtain ⟨hi, lo, hhi, hlo, -⟩ := State.completeOk_next h
    exact ⟨_, .voltage hhi hlo⟩

/-- The inversion of `exec` over the sequencer's instructions. -/
theorem exec_instr_next_iff {s t : State} {p : Phase} : exec p.instr s = .next t ↔ MicroStep s p t := by
  refine ⟨fun h => ?_, MicroStep.exec_eq⟩
  obtain ⟨t', ht'⟩ := exists_microStep_of_exec h
  cases ht'.exec_eq.symm.trans h
  exact ht'

/-- With no host move pending, a step is a row of the transition table. -/
theorem step_next_iff {s t : State} (hin : s.inbox = []) : step s = .next t ↔ MicroStep s s.phase t := by
  rw [step_of_inbox_nil hin, exec_instr_next_iff]

/-! ## What every micro-operation keeps, and where it leads -/

/-- R51, R63: what belongs to the host, and what only `START` samples, is as it was. -/
structure SameEnvironment (s t : State) : Prop where
  fb : t.fb = s.fb
  cfgPort : t.cfgPort = s.cfgPort
  lenPort : t.lenPort = s.lenPort
  inbox : t.inbox = s.inbox

theorem MicroStep.sameEnvironment {s t : State} {p : Phase} (h : MicroStep s p t) : SameEnvironment s t := by
  cases h <;> exact ⟨rfl, rfl, rfl, rfl⟩

/-- Within a transaction the sampled configuration and length stay (R165), and so does the host's mark. -/
theorem MicroStep.keepsSample {s t : State} {p : Phase} (h : MicroStep s p t) :
    t.cfgR = s.cfgR ∧ t.lenR = s.lenR ∧ t.disturbed = s.disturbed := by
  cases h <;> exact ⟨rfl, rfl, rfl⟩

/-- R170: the next phase is a target of the table. -/
theorem MicroStep.phaseRow {s t : State} {p : Phase} (h : MicroStep s p t) (hp : s.phase = p) :
    phaseRow p t.phase = true := by
  cases h with
  | hold => rw [hp]; rfl
  | _ => rfl

/-- A result becomes valid just when the transaction ends. -/
theorem MicroStep.resValid_iff {s t : State} {p : Phase} (h : MicroStep s p t) (hbusy : p ≠ .idle)
    (hnone : s.resValid = false) : t.resValid = true ↔ t.phase = .idle := by
  cases h with
  | hold => exact absurd rfl hbusy
  | lengthFails | syncFails | cidFails | checksumFails | voltage => exact iff_of_true rfl rfl
  | _ => exact iff_of_false (Bool.eq_false_iff.mp hnone) nofun

end Sys2Proof.Proofs
end

section
/-! The two ways a transaction begins, said once by their conditions: the host command `START` (R165, R226; log 8) and a
whole frame (log 11). -/

namespace Sys2Proof.Proofs

open Sys2Proof Sys2Proof.Machine

/-! ## `START` -/

section

variable {s t : State}

theorem execStart_of_busy (hbusy : s.phase ≠ .idle) : execStart s = .next s := by
  obtain ⟨-, heq⟩ | ⟨hidle, -⟩ | ⟨hidle, -⟩ | ⟨hidle, -⟩ | ⟨hidle, -⟩ := execStart_cases s
  case inl => exact heq
  all_goals exact absurd hidle hbusy

theorem execStart_of_short (hidle : s.phase = .idle) (hwf : s.cfgPort.wf = true)
    (hshort : Memory.covers s.fb s.lenPort.toNat = false) : execStart s = .refused .bufferShorterThanLen := by
  obtain ⟨hbusy, -⟩ | ⟨-, hill, -⟩ | ⟨-, -, -, heq⟩ | ⟨-, -, hcovers, -⟩ | ⟨-, -, hcovers, -⟩ := execStart_cases s
  · exact absurd hidle hbusy
  · simp [hwf] at hill
  · exact heq
  · simp [hshort] at hcovers
  · simp [hshort] at hcovers

theorem execStart_of_long (hidle : s.phase = .idle) (hwf : s.cfgPort.wf = true)
    (hcovers : Memory.covers s.fb s.lenPort.toNat = true) (hlong : Memory.endsBy s.fb s.lenPort.toNat = false) :
    execStart s = .refused .bufferLongerThanLen := by
  obtain ⟨hbusy, -⟩ | ⟨-, hill, -⟩ | ⟨-, -, hshort, -⟩ | ⟨-, -, -, -, heq⟩ | ⟨-, -, -, hends, -⟩ := execStart_cases s
  · exact absurd hidle hbusy
  · simp [hwf] at hill
  · simp [hcovers] at hshort
  · exact heq
  · simp [hlong] at hends

theorem execStart_of_trueLength (hidle : s.phase = .idle) (hwf : s.cfgPort.wf = true)
    (hcovers : Memory.covers s.fb s.lenPort.toNat = true) (hends : Memory.endsBy s.fb s.lenPort.toNat = true) :
    execStart s = .next s.latch := by
  obtain ⟨hbusy, -⟩ | ⟨-, hill, -⟩ | ⟨-, -, hshort, -⟩ | ⟨-, -, -, hlong, -⟩ | ⟨-, -, -, -, heq⟩ := execStart_cases s
  · exact absurd hidle hbusy
  · simp [hwf] at hill
  · simp [hcovers] at hshort
  · simp [hends] at hlong
  · exact heq

/-- If `START` answers a next state, a busy block stayed as it was or an idle one took it. -/
theorem execStart_next (h : execStart s = .next t) :
    (s.phase ≠ .idle ∧ t = s) ∨
    (s.phase = .idle ∧ s.cfgPort.wf = true ∧ Memory.covers s.fb s.lenPort.toNat = true ∧ t = s.latch) := by
  obtain ⟨hbusy, heq⟩ | ⟨-, -, heq⟩ | ⟨-, -, -, heq⟩ | ⟨-, -, -, -, heq⟩ | ⟨hidle, hwf, hcovers, -, heq⟩ :=
    execStart_cases s
  all_goals cases heq.symm.trans h
  · exact .inl ⟨hbusy, rfl⟩
  · exact .inr ⟨hidle, hwf, hcovers, rfl⟩

theorem execStart_next_of_idle (hidle : s.phase = .idle) (h : execStart s = .next t) : t = s.latch := by
  obtain ⟨hbusy, -⟩ | ⟨-, -, -, heq⟩ := execStart_next h
  · exact absurd hidle hbusy
  · exact heq

end

/-- Settles O32: the true length is both conditions of the buffer. -/
theorem startSamplesThePorts : Obligations.StartSamplesThePorts := by
  unfold Obligations.StartSamplesThePorts
  refine ⟨rfl, fun s hidle hwf htrue => ?_, fun s hbusy => execStart_of_busy hbusy, fun s rest hbusy hin => ?_⟩
  · have hcovers := (Memory.covers_iff s.fb s.lenPort.toNat).mpr fun i hi => (htrue i).mpr hi
    have hends := (Memory.endsBy_iff s.fb s.lenPort.toNat).mpr fun i hi =>
      not_not.mp (mt (htrue i).mp (Nat.not_lt.mpr hi))
    exact execStart_of_trueLength hidle hwf hcovers hends
  · exact (step_of_inbox_cons hin).trans (execStart_of_busy (s := s.withInbox rest) hbusy)

/-- Settles O33: a byte missing below `len`, or one readable at or past it. -/
theorem startWithAnUntrueLengthIsRefused : Obligations.StartWithAnUntrueLengthIsRefused := by
  unfold Obligations.StartWithAnUntrueLengthIsRefused
  intro s off hidle hwf
  constructor
  · intro hlt hnone
    refine execStart_of_short hidle hwf (Bool.eq_false_iff.mpr fun hcovers => ?_)
    exact (Memory.covers_iff _ _).mp hcovers off hlt hnone
  · intro hall hle hsome
    refine execStart_of_long hidle hwf ((Memory.covers_iff _ _).mpr hall) (Bool.eq_false_iff.mpr fun hends => ?_)
    exact hsome ((Memory.endsBy_iff _ _).mp hends off hle)

/-! ## A whole frame -/

section

variable {s t : State} {frame : List Byte}

theorem presentable_iff : presentable frame = true ↔ frame.length ≤ 255 := decide_eq_true_iff

theorem transact_of_idle (hidle : s.phase = .idle) (hwf : s.cfgPort.wf = true) (hlen : frame.length ≤ 255) :
    s.transact frame = .next ((s.present frame).latch.runTransaction frame) := by
  obtain ⟨hlong, -⟩ | ⟨-, hbusy, -⟩ | ⟨-, -, hill, -⟩ | ⟨-, -, -, heq⟩ := State.transact_cases s frame
  · exact absurd (presentable_iff.mpr hlen) (by simp [hlong])
  · exact absurd hidle hbusy
  · simp [hwf] at hill
  · exact heq

theorem transact_of_busy (hbusy : s.phase ≠ .idle) (hlen : frame.length ≤ 255) :
    s.transact frame = .next (s.present frame) := by
  obtain ⟨hlong, -⟩ | ⟨-, -, heq⟩ | ⟨-, hidle, -⟩ | ⟨-, hidle, -⟩ := State.transact_cases s frame
  · exact absurd (presentable_iff.mpr hlen) (by simp [hlong])
  · exact heq
  · exact absurd hidle hbusy
  · exact absurd hidle hbusy

theorem transact_of_illFormed (hidle : s.phase = .idle) (hill : s.cfgPort.wf = false) (hlen : frame.length ≤ 255) :
    s.transact frame = .refused .illFormedConfig := by
  obtain ⟨hlong, -⟩ | ⟨-, hbusy, -⟩ | ⟨-, -, -, heq⟩ | ⟨-, -, hwf, -⟩ := State.transact_cases s frame
  · exact absurd (presentable_iff.mpr hlen) (by simp [hlong])
  · exact absurd hidle hbusy
  · exact heq
  · simp [hill] at hwf

/-- If a whole frame answers a next state, a running transaction was presented the bytes or a new one has run. -/
theorem transact_next (h : s.transact frame = .next t) :
    frame.length ≤ 255 ∧
      ((s.phase ≠ .idle ∧ t = s.present frame) ∨
       (s.phase = .idle ∧ t = (s.present frame).latch.runTransaction frame)) := by
  obtain ⟨-, heq⟩ | ⟨hpres, hbusy, heq⟩ | ⟨-, -, -, heq⟩ | ⟨hpres, hidle, -, heq⟩ := State.transact_cases s frame
  all_goals cases heq.symm.trans h
  · exact ⟨presentable_iff.mp hpres, .inl ⟨hbusy, rfl⟩⟩
  · exact ⟨presentable_iff.mp hpres, .inr ⟨hidle, rfl⟩⟩

end

end Sys2Proof.Proofs
end

section
/-! The invariants of a run (R32, R34, R59, R101, R192): every step keeps them, no step from a state that has them faults,
and a running transaction ends within the bound of R173. -/

namespace Sys2Proof.Proofs

open Sys2Proof Sys2Proof.Machine

/-! ## What a well-formed configuration bounds -/

/-- R9 (a) to (c) as numbers. -/
structure CfgBounds (c : Cfg) : Prop where
  frameLen : c.frameLen.toNat = 6 ∨ c.frameLen.toNat = 7
  csFirst : 2 ≤ c.csFirst.toNat
  span : c.csFirst.toNat ≤ c.csEnd.toNat
  csEnd : c.csEnd.toNat ≤ c.frameLen.toNat - 1
  statusOff : c.statusOff.toNat ≤ c.frameLen.toNat - 2
  voltHiOff : c.voltHiOff.toNat ≤ c.frameLen.toNat - 2
  voltLoOff : c.voltLoOff.toNat ≤ c.frameLen.toNat - 2

theorem cfgBounds_of_wf {c : Cfg} (h : c.wf = true) : CfgBounds c := by
  obtain ⟨hlen, hspan, hoffs, -⟩ := (wf_iff_clauses c).mp h
  obtain ⟨hfirst, hle, hend⟩ := (spanOk_iff c).mp hspan
  obtain ⟨⟨-, hstatus⟩, ⟨-, hhi⟩, ⟨-, hlo⟩⟩ := (offsetsOk_iff c).mp hoffs
  exact ⟨(lenOk_iff c).mp hlen, hfirst, hle, hend, hstatus, hhi, hlo⟩

theorem zext8_toNat (v : BitVec 3) : (zext8 v).toNat = v.toNat := BitVec.toNat_setWidth_of_le (by decide)

/-- `IDX + 1` does not wrap below an offset of three bits (log 13). -/
theorem idx_succ_toNat {idx : BitVec 3} (h : idx.toNat + 1 < 2 ^ 3) : (idx + 1).toNat = idx.toNat + 1 :=
  BitVec.toNat_add_of_lt h

/-! ## The sequencer invariant -/

section

variable {s t : State}

theorem seqInv_withInbox (hi : SeqInv s) (moves : List HostMove) : SeqInv (s.withInbox moves) := { hi with }

/-- In `IDLE` the invariant asks for a canonical buffer alone. -/
theorem seqInv_of_idle (hfb : Memory.wf t.fb = true) (hidle : t.phase = .idle) : SeqInv t where
  canonical := hfb
  noResultWhileBusy h := absurd hidle h
  cfgWf h := absurd hidle h
  readable h := absurd hidle h
  length h := absurd hidle h
  idxInSpan h := by simp [hidle] at h
  accIsByte h := by simp [hidle] at h

/-- Within a transaction whose length was found right, `IDX` and `ACC` are what is left to check. -/
theorem seqInv_of_micro {p : Phase} (hi : SeqInv s) (hmicro : MicroStep s p t) (hp : s.phase = p) (hbusy : p ≠ .idle)
    (hlen : s.lenR = zext8 s.cfgR.frameLen) (hres : t.resValid = s.resValid)
    (hidx : t.phase = .cAdd → t.cfgR.csFirst.toNat ≤ t.idx.toNat ∧ t.idx.toNat < t.cfgR.csEnd.toNat)
    (hacc : t.phase = .cAdd ∨ t.phase = .cFin → t.acc.toNat ≤ 255) : SeqInv t := by
  obtain ⟨hcfg, hlenR, hdist⟩ := hmicro.keepsSample
  have hfb := hmicro.sameEnvironment.fb
  subst hp
  exact {
    canonical := hfb ▸ hi.canonical
    noResultWhileBusy := fun _ => hres.trans (hi.noResultWhileBusy hbusy)
    cfgWf := fun _ => hcfg ▸ hi.cfgWf hbusy
    readable := fun _ => by rw [hdist, hfb, hlenR]; exact hi.readable hbusy
    length := fun _ _ => by rw [hlenR, hcfg]; exact hlen
    idxInSpan := hidx
    accIsByte := hacc }

/-- R22, R59, R101: every row of the transition table keeps the invariant. -/
theorem MicroStep.keeps_seqInv {p : Phase} (h : MicroStep s p t) (hp : s.phase = p) (hi : SeqInv s) : SeqInv t := by
  have hmicro := h
  have hlen : s.phase ≠ .idle → s.phase ≠ .vLen → s.lenR = zext8 s.cfgR.frameLen := hi.length
  have hbounds : s.phase ≠ .idle → CfgBounds s.cfgR := fun hbusy => cfgBounds_of_wf (hi.cfgWf hbusy)
  rw [hp] at hlen hbounds
  cases h with
  | hold => exact hi
  | lengthPasses h => exact seqInv_of_micro hi hmicro hp (by decide) h rfl (by simp) (by simp)
  | lengthFails | syncFails | cidFails | checksumFails | voltage => exact seqInv_of_idle hi.canonical rfl
  | syncPasses | cidPasses | complements | checksumPasses | flags =>
    exact seqInv_of_micro hi hmicro hp (by decide) (hlen (by decide) (by decide)) rfl (by simp) (by simp)
  | @spanBegins b hread hne =>
    exact seqInv_of_micro hi hmicro hp (by decide) (hlen (by decide) (by decide)) rfl
      (fun _ => ⟨Nat.le_refl _, hne⟩) (fun _ => zext16_le b)
  | @spanIsEmpty b hread hempty =>
    exact seqInv_of_micro hi hmicro hp (by decide) (hlen (by decide) (by decide)) rfl (by simp) (fun _ => zext16_le b)
  | @spanGoesOn b hread hmore =>
    have hidx := idx_succ_toNat (Nat.lt_trans hmore s.cfgR.csEnd.isLt)
    have hfrom := (hi.idxInSpan hp).1
    refine seqInv_of_micro hi hmicro hp (by decide) (hlen (by decide) (by decide)) rfl (fun _ => ?_)
      (fun _ => csStep_le b (hi.accIsByte (.inl hp)))
    show s.cfgR.csFirst.toNat ≤ (s.idx + 1).toNat ∧ (s.idx + 1).toNat < s.cfgR.csEnd.toNat
    omega
  | @spanEnds b hread hlast =>
    exact seqInv_of_micro hi hmicro hp (by decide) (hlen (by decide) (by decide)) rfl (by simp)
      (fun _ => csStep_le b (hi.accIsByte (.inl hp)))

/-- R61: a buffer the host changes below `LEN_R` is marked, and one it leaves alone there is still readable. -/
theorem seqInv_hostWrites {m : Memory} (hi : SeqInv s) (hm : Memory.wf m = true) : SeqInv (s.hostWrites m) := by
  refine { hi with canonical := hm, readable := fun hbusy => ?_ }
  have hb : s.busy = true := bne_iff_ne.mpr hbusy
  simp only [State.hostWrites_disturbed, State.hostWrites_fb, State.hostWrites_lenR, hb, Bool.true_and]
  cases hagree : Memory.agreeBelow s.fb m s.lenR.toNat with
  | false => simp
  | true =>
    obtain hdist | hcovers := hi.readable hbusy
    · exact .inl (by rw [hdist, Bool.true_or])
    · exact .inr (Memory.covers_of_agreeBelow hagree hcovers)

theorem seqInv_present (hi : SeqInv s) (bytes : List Byte) : SeqInv (s.present bytes) :=
  { seqInv_hostWrites hi (Memory.ofBytes_wf bytes) with }

/-- R165: what `START` checks is what the invariant asks of a transaction that begins. -/
theorem seqInv_latch (hi : SeqInv s) (hwf : s.cfgPort.wf = true) (hcovers : Memory.covers s.fb s.lenPort.toNat = true) :
    SeqInv s.latch where
  canonical := hi.canonical
  noResultWhileBusy _ := rfl
  cfgWf _ := hwf
  readable _ := .inr hcovers
  length _ h := absurd rfl h
  idxInSpan h := by cases h
  accIsByte h := by simp at h

theorem seqInv_execStart (hi : SeqInv s) (h : execStart s = .next t) : SeqInv t := by
  obtain ⟨-, rfl⟩ | ⟨-, hwf, hcovers, rfl⟩ := execStart_next h
  · exact hi
  · exact seqInv_latch hi hwf hcovers

end

/-! ## A whole transaction in one go -/

section

variable (s : State) (frame : List Byte)

/-- A transaction run in one go writes registers only: the environment stays, and the end is the report (R193). -/
theorem runTransaction_end :
    (s.runTransaction frame).phase = .idle ∧ (s.runTransaction frame).resValid = true ∧
      (s.runTransaction frame).resultRegs = regsOf (decodeFrame s.cfgR frame) ∧
      (s.runTransaction frame).fb = s.fb :=
  ⟨rfl, rfl, rfl, by rw [State.runTransaction]; split <;> rfl⟩

end

theorem seqInv_transact {s t : State} {frame : List Byte} (hi : SeqInv s) (h : s.transact frame = .next t) :
    SeqInv t := by
  obtain ⟨-, ⟨-, rfl⟩ | ⟨-, rfl⟩⟩ := transact_next h
  · exact seqInv_present hi frame
  · obtain ⟨hidle, -, -, hfb⟩ := runTransaction_end (s.present frame).latch frame
    exact seqInv_of_idle (hfb ▸ Memory.ofBytes_wf frame) hidle

/-- Settles O46: one case for every way a step answers a next state. -/
theorem stepKeepsSequencerInvariant : Obligations.StepKeepsSequencerInvariant := by
  unfold Obligations.StepKeepsSequencerInvariant
  intro s t hi h
  have hbox := seqInv_withInbox hi
  obtain ⟨moves, h⟩ | ⟨moves, c, rfl⟩ | ⟨moves, bytes, rfl⟩ | ⟨moves, n, rfl⟩ | ⟨moves, off, b, rfl⟩ | ⟨moves, rfl⟩ |
    ⟨moves, h⟩ | ⟨moves, rfl⟩ | ⟨moves, bytes, h⟩ := step_cases h
  · exact (exec_instr_next_iff.mp h).keeps_seqInv rfl (hbox moves)
  · exact { hbox moves with }
  · exact seqInv_present (hbox moves) bytes
  · exact { hbox moves with }
  · exact seqInv_hostWrites (hbox moves) (Memory.write_wf off.toNat b hi.canonical)
  · exact seqInv_of_idle hi.canonical rfl
  · exact seqInv_execStart (hbox moves) h
  · exact hbox moves
  · exact seqInv_transact (hbox moves) h

/-! ## The result invariant -/

/-- The shapes of the registers R177 gives a result: a success, or one of the four failures with zero outputs. -/
def IsReport (r : ResultRegs) : Prop :=
  (r.resOk = true ∧ r.errCode = 0#3 ∧ r.diag0 = 0#8 ∧ r.diag1 = 0#8) ∨
  (r.resOk = false ∧ (r.errCode = 1#3 ∨ r.errCode = 2#3 ∨ r.errCode = 3#3 ∨ r.errCode = 4#3) ∧
    r.voltage = 0#16 ∧ (r.hasError, r.voltFlag, r.isSupported, r.dischg) = (false, false, false, false))

theorem resultInv_iff (s : State) :
    ResultInv s ↔ (s.resValid = true → s.phase = .idle ∧ IsReport s.resultRegs) :=
  Iff.rfl

theorem isReport_regsOf (r : Result) : IsReport (regsOf r) := by
  match r with
  | .ok _ => exact .inl ⟨rfl, rfl, rfl, rfl⟩
  | .err (.lengthMismatch _ _) => exact .inr ⟨rfl, .inl rfl, rfl, rfl⟩
  | .err (.badSync _) => exact .inr ⟨rfl, .inr (.inl rfl), rfl, rfl⟩
  | .err (.badCommandId _ _) => exact .inr ⟨rfl, .inr (.inr (.inl rfl)), rfl, rfl⟩
  | .err (.checksumMismatch _ _) => exact .inr ⟨rfl, .inr (.inr (.inr rfl)), rfl, rfl⟩

section

variable {s t : State}

/-- R32: without a valid result there is nothing to show. -/
theorem resultInv_of_invalid (h : t.resValid = false) : ResultInv t := fun hvalid => by simp [h] at hvalid

/-- R192: a busy block has no valid result, so a row of the table either leaves it so or makes a report. -/
theorem MicroStep.keeps_resultInv {p : Phase} (h : MicroStep s p t) (hp : s.phase = p) (hi : ResultInv s) :
    ResultInv t := by
  have hnone : p ≠ .idle → s.resValid = false := fun hbusy =>
    Bool.eq_false_iff.mpr fun hvalid => hbusy (hp ▸ (hi hvalid).1)
  cases h with
  | hold => exact hi
  | lengthFails => exact fun _ => ⟨rfl, .inr ⟨rfl, .inl rfl, rfl, rfl⟩⟩
  | syncFails => exact fun _ => ⟨rfl, .inr ⟨rfl, .inr (.inl rfl), rfl, rfl⟩⟩
  | cidFails => exact fun _ => ⟨rfl, .inr ⟨rfl, .inr (.inr (.inl rfl)), rfl, rfl⟩⟩
  | checksumFails => exact fun _ => ⟨rfl, .inr ⟨rfl, .inr (.inr (.inr rfl)), rfl, rfl⟩⟩
  | voltage => exact fun _ => ⟨rfl, .inl ⟨rfl, rfl, rfl, rfl⟩⟩
  | _ => exact resultInv_of_invalid (hnone (by decide))

theorem resultInv_execStart (hi : ResultInv s) (h : execStart s = .next t) : ResultInv t := by
  obtain ⟨-, rfl⟩ | ⟨-, -, -, rfl⟩ := execStart_next h
  · exact hi
  · exact resultInv_of_invalid rfl

theorem resultInv_transact {frame : List Byte} (hi : ResultInv s) (h : s.transact frame = .next t) : ResultInv t := by
  obtain ⟨-, ⟨-, rfl⟩ | ⟨-, rfl⟩⟩ := transact_next h
  · exact hi
  · obtain ⟨hidle, -, hregs, -⟩ := runTransaction_end (s.present frame).latch frame
    rw [resultInv_iff, hregs]
    exact fun _ => ⟨hidle, isReport_regsOf _⟩

end

/-- Settles O47: one case for every way a step answers a next state. -/
theorem stepKeepsResultInvariant : Obligations.StepKeepsResultInvariant := by
  unfold Obligations.StepKeepsResultInvariant
  intro s t hi h
  have hbox : ∀ moves : List HostMove, ResultInv (s.withInbox moves) := fun _ => hi
  obtain ⟨moves, h⟩ | ⟨moves, c, rfl⟩ | ⟨moves, bytes, rfl⟩ | ⟨moves, n, rfl⟩ | ⟨moves, off, b, rfl⟩ | ⟨moves, rfl⟩ |
    ⟨moves, h⟩ | ⟨moves, rfl⟩ | ⟨moves, bytes, h⟩ := step_cases h
  · exact (exec_instr_next_iff.mp h).keeps_resultInv rfl (hbox moves)
  · exact hi
  · exact hi
  · exact hi
  · exact hi
  · exact resultInv_of_invalid rfl
  · exact resultInv_execStart (hbox moves) h
  · exact hi
  · exact resultInv_transact (hbox moves) h

/-- Settles O45: the reset state is idle, and it has no result. -/
theorem resetStateIsIdleAndMeetsTheInvariants : Obligations.ResetStateIsIdleAndMeetsTheInvariants := by
  unfold Obligations.ResetStateIsIdleAndMeetsTheInvariants
  exact ⟨rfl, rfl, seqInv_of_idle State.reset_fb_wf rfl, resultInv_of_invalid rfl⟩

/-! ## No fault -/

section

variable {s : State}

/-- R59: past `V_LEN` the length is the expected one, so the offsets of a well-formed configuration are below it. -/
theorem reads_lt_lenR (hi : SeqInv s) : ∀ off ∈ s.reads, off < s.lenR.toNat := by
  have hlen : s.phase ≠ .idle → s.phase ≠ .vLen → s.lenR.toNat = s.cfgR.frameLen.toNat := fun hbusy hpast => by
    rw [hi.length hbusy hpast, zext8_toNat]
  have hbounds : s.phase ≠ .idle → CfgBounds s.cfgR := fun hbusy => cfgBounds_of_wf (hi.cfgWf hbusy)
  have hidx := hi.idxInSpan
  unfold State.reads
  cases hp : s.phase with
  | idle | vLen | cFin => simp
  | vSync | vCid | cInit | cAdd | vCsum | xFlags | xVolt =>
    simp only [hp, ne_eq, reduceCtorEq, not_false_eq_true, true_imp_iff, false_imp_iff] at hlen hbounds hidx
    obtain ⟨hfl, hfirst, hspan, hend, hstatus, hhi, hlo⟩ := hbounds
    simp only [List.mem_cons, List.not_mem_nil, or_false, forall_eq_or_imp, forall_eq, lastOff]
    omega

/-- R59, R190: where every byte the phase reads is below `LEN_R`, and readable or a free value, nothing stops the
micro-operation. -/
theorem exists_microStep (hlt : ∀ off ∈ s.reads, off < s.lenR.toNat)
    (hreadable : s.phase ≠ .idle → s.disturbed = true ∨ Memory.covers s.fb s.lenR.toNat = true) :
    ∃ t : State, MicroStep s s.phase t := by
  have hread : s.phase ≠ .idle → ∀ off ∈ s.reads, ∃ b : Byte, s.memRead off = .ok b := fun hbusy off hoff =>
    State.memRead_succeeds (hlt off hoff) (hreadable hbusy)
  have hnext : s.phase ≠ .idle → ∀ off ∈ s.reads, ∃ b : Byte, s.noteRead.memRead off = .ok b := fun hbusy off hoff =>
    State.memRead_succeeds (s := s.noteRead) (hlt off hoff) (hreadable hbusy)
  unfold State.reads at hread hnext
  cases hp : s.phase <;> simp only [hp, List.forall_mem_cons] at hread hnext
  case idle => exact ⟨s, .hold⟩
  case vLen => exact exists_vLen s
  case cFin => exact ⟨_, .complements⟩
  all_goals obtain ⟨⟨b, hb⟩, -⟩ := hread (by decide)
  case vSync => exact exists_vSync hb
  case vCid => exact exists_vCid hb
  case cInit => exact exists_cInit hb
  case cAdd => exact exists_cAdd hb
  case vCsum => exact exists_vCsum hb
  case xFlags => exact ⟨_, .flags hb⟩
  case xVolt =>
    obtain ⟨-, ⟨lo, hlo⟩, -⟩ := hnext (by decide)
    exact ⟨_, .voltage hb hlo⟩

theorem seqInv_exec_next (hi : SeqInv s) : ∃ t : State, exec s.phase.instr s = .next t := by
  obtain ⟨t, ht⟩ := exists_microStep (reads_lt_lenR hi) hi.readable
  exact ⟨t, ht.exec_eq⟩

theorem execStart_ne_fault (s : State) (f : Fault) : execStart s ≠ .fault f := by
  obtain ⟨-, heq⟩ | ⟨-, -, heq⟩ | ⟨-, -, -, heq⟩ | ⟨-, -, -, -, heq⟩ | ⟨-, -, -, -, heq⟩ := execStart_cases s
  all_goals simp [heq]

theorem transact_ne_fault (s : State) (frame : List Byte) (f : Fault) : s.transact frame ≠ .fault f := by
  obtain ⟨-, heq⟩ | ⟨-, -, heq⟩ | ⟨-, -, -, heq⟩ | ⟨-, -, -, heq⟩ := State.transact_cases s frame
  all_goals simp [heq]

/-- Only the sequencer reads the buffer, so a step faults only as its micro-operation does. -/
theorem runMove_fault {m : HostMove} {f : Fault} (h : runMove m s = .fault f) :
    ∃ moves : List HostMove, exec s.phase.instr (s.withInbox moves) = .fault f := by
  cases m with
  | cfg | len | poke => cases h
  | frame bytes => simp only [runMove] at h; split at h <;> cases h
  | wait =>
    simp only [runMove] at h
    split at h
    · cases h
    · rw [runSequencer_eq] at h
      exact ⟨_, h⟩
  | transact bytes =>
    rw [runMove, runFrame_eq] at h
    exact absurd h (transact_ne_fault s bytes f)
  | pins rst start =>
    cases rst with
    | true => cases h
    | false =>
      cases start with
      | true => exact absurd h (execStart_ne_fault s f)
      | false =>
        simp only [runMove, samplePins, Bool.false_eq_true, if_false, runSequencer_eq] at h
        exact ⟨s.inbox, h⟩

end

/-- Settles O48: the sequencer's micro-operation answers a next state, and no move of the host reads the buffer. -/
theorem noReadIsOutOfBounds : Obligations.NoReadIsOutOfBounds := by
  unfold Obligations.NoReadIsOutOfBounds
  intro s hi
  refine ⟨fun f h => ?_, reads_lt_lenR hi, fun hin => ?_⟩
  · cases hin : s.inbox with
    | nil =>
      obtain ⟨t, ht⟩ := seqInv_exec_next hi
      cases ht.symm.trans ((step_of_inbox_nil hin).symm.trans h)
    | cons m rest =>
      obtain ⟨moves, hmoves⟩ := runMove_fault ((step_of_inbox_cons hin).symm.trans h)
      obtain ⟨t, ht⟩ := seqInv_exec_next (seqInv_withInbox hi moves)
      cases ht.symm.trans hmoves
  · obtain ⟨t, ht⟩ := seqInv_exec_next hi
    exact ⟨t, (step_of_inbox_nil hin).trans ht⟩

end Sys2Proof.Proofs
end

section
/-! The function `decode` and its image in the result registers (R116, R127, R177): every answer with its conditions,
the frames that are accepted, and the frame rows, which run a whole transaction in one go (log 11). -/

namespace Sys2Proof.Proofs

open Sys2Proof Sys2Proof.Machine

/-! ## Every answer of `decode` -/

section

variable {cfg : Cfg} {f : List Byte}

/-- R116 step 5: a frame that passes every check gives its fields. -/
theorem decodeFrame_of_wellFormed (hlen : f.length = cfg.frameLen.toNat) (hsync : byteAt f 0 = 0x55#8)
    (hcid : cfg.cidCheck = true → byteAt f 1 = cfg.expectedCid)
    (hsum : frameChecksum cfg f = byteAt f (f.length - 1)) : decodeFrame cfg f = .ok (extractFields cfg f) := by
  have hcidPasses : ¬ (cfg.cidCheck = true ∧ byteAt f 1 ≠ cfg.expectedCid) :=
    fun ⟨hcheck, hne⟩ => hne (hcid hcheck)
  rw [decodeFrame, if_neg (not_not_intro hlen), if_neg (not_not_intro hsync), if_neg hcidPasses,
    if_neg (not_not_intro hsum)]

variable (cfg f)

/-- The five answers of `decode`, each with the checks that passed before it (R117). -/
theorem decodeFrame_cases :
    (f.length ≠ cfg.frameLen.toNat ∧ decodeFrame cfg f = .err (.lengthMismatch cfg.frameLen.toNat f.length)) ∨
    (f.length = cfg.frameLen.toNat ∧ byteAt f 0 ≠ 0x55#8 ∧ decodeFrame cfg f = .err (.badSync (byteAt f 0))) ∨
    (f.length = cfg.frameLen.toNat ∧ byteAt f 0 = 0x55#8 ∧ cfg.cidCheck = true ∧ byteAt f 1 ≠ cfg.expectedCid ∧
      decodeFrame cfg f = .err (.badCommandId cfg.expectedCid (byteAt f 1))) ∨
    (f.length = cfg.frameLen.toNat ∧ byteAt f 0 = 0x55#8 ∧ (cfg.cidCheck = true → byteAt f 1 = cfg.expectedCid) ∧
      frameChecksum cfg f ≠ byteAt f (f.length - 1) ∧
      decodeFrame cfg f = .err (.checksumMismatch (frameChecksum cfg f) (byteAt f (f.length - 1)))) ∨
    (f.length = cfg.frameLen.toNat ∧ byteAt f 0 = 0x55#8 ∧ (cfg.cidCheck = true → byteAt f 1 = cfg.expectedCid) ∧
      frameChecksum cfg f = byteAt f (f.length - 1) ∧ decodeFrame cfg f = .ok (extractFields cfg f)) := by
  by_cases hlen : f.length = cfg.frameLen.toNat
  case neg => exact .inl ⟨hlen, decodeFrame_of_wrongLength hlen⟩
  by_cases hsync : byteAt f 0 = 0x55#8
  case neg => exact .inr (.inl ⟨hlen, hsync, decodeFrame_of_wrongSync hlen hsync⟩)
  by_cases hcid : cfg.cidCheck = true → byteAt f 1 = cfg.expectedCid
  case neg =>
    obtain ⟨hcheck, hne⟩ := Classical.not_imp.mp hcid
    exact .inr (.inr (.inl ⟨hlen, hsync, hcheck, hne, decodeFrame_of_wrongCommandId hlen hsync hcheck hne⟩))
  by_cases hsum : frameChecksum cfg f = byteAt f (f.length - 1)
  case neg =>
    exact .inr (.inr (.inr (.inl ⟨hlen, hsync, hcid, hsum, decodeFrame_of_wrongChecksum hlen hsync hcid hsum⟩)))
  exact .inr (.inr (.inr (.inr ⟨hlen, hsync, hcid, hsum, decodeFrame_of_wellFormed hlen hsync hcid hsum⟩)))

variable {cfg f}

/-- R127: `Ok` means that every check passed. -/
theorem decodeFrame_eq_ok_iff {d : Decoded} :
    decodeFrame cfg f = .ok d ↔
      f.length = cfg.frameLen.toNat ∧ byteAt f 0 = 0x55#8 ∧ (cfg.cidCheck = true → byteAt f 1 = cfg.expectedCid) ∧
        frameChecksum cfg f = byteAt f (f.length - 1) ∧ d = extractFields cfg f := by
  constructor
  · intro hok
    obtain ⟨-, heq⟩ | ⟨-, -, heq⟩ | ⟨-, -, -, -, heq⟩ | ⟨-, -, -, -, heq⟩ | ⟨hlen, hsync, hcid, hsum, heq⟩ :=
      decodeFrame_cases cfg f
    all_goals cases heq.symm.trans hok
    exact ⟨hlen, hsync, hcid, hsum, rfl⟩
  · rintro ⟨hlen, hsync, hcid, hsum, rfl⟩
    exact decodeFrame_of_wellFormed hlen hsync hcid hsum

end

theorem decoded_eq_iff (d d' : Decoded) :
    d = d' ↔ d.voltage = d'.voltage ∧ d.hasError = d'.hasError ∧ d.voltFlag = d'.voltFlag ∧
      d.isSupported = d'.isSupported ∧ d.discharge = d'.discharge := by
  cases d
  cases d'
  exact Decoded.mk.injEq .. ▸ Iff.rfl

/-- Settles O16: the checks, and the fields one by one. -/
theorem decodeAcceptsExactlyWellFormedFrames : Obligations.DecodeAcceptsExactlyWellFormedFrames := by
  unfold Obligations.DecodeAcceptsExactlyWellFormedFrames
  intro cfg f d
  have hcheck : (cfg.cidCheck = true → byteAt f 1 = cfg.expectedCid) ↔
      (cfg.cidCheck = false ∨ byteAt f 1 = cfg.expectedCid) := by
    rw [imp_iff_not_or, Bool.not_eq_true]
  rw [decodeFrame_eq_ok_iff, decoded_eq_iff, hcheck, eq_comm (a := frameChecksum cfg f)]
  rfl

/-! ## One checksum byte -/

section

variable {body : List Byte} {k : Byte}

theorem byteAt_append_of_lt {i : Nat} (h : i < body.length) : byteAt (body ++ [k]) i = byteAt body i :=
  List.getD_append _ _ _ _ h

theorem byteAt_append_length : byteAt (body ++ [k]) body.length = k := by
  rw [byteAt, List.getD_append_right _ _ _ _ (Nat.le_refl _), Nat.sub_self]
  rfl

/-- The last byte is not in a span that ends before it. -/
theorem bytesBetween_append {a b : Nat} (hab : a ≤ b) (hb : b ≤ body.length) :
    bytesBetween (body ++ [k]) a b = bytesBetween body a b := by
  rw [bytesBetween, bytesBetween, List.drop_append_of_le_length (by omega),
    List.take_append_of_le_length (by rw [List.length_drop]; omega)]

/-- R127: the checksum does not cover its own byte (R9 (b)). -/
theorem frameChecksum_append {cfg : Cfg} (hwf : cfg.wf = true) (hlen : body.length + 1 = cfg.frameLen.toNat) :
    frameChecksum cfg (body ++ [k]) = frameChecksum cfg body := by
  obtain ⟨hfl, -, hspan, hend⟩ := cfgBounds_of_wf hwf
  rw [frameChecksum, frameChecksum, spanBytes, spanBytes, byteAt_append_of_lt (by omega),
    bytesBetween_append hspan (by omega)]

end

/-- Settles O17: with the other checks passed, `Ok` means that the last byte is the checksum of the bytes before it. -/
theorem exactlyOneChecksumByteIsAccepted : Obligations.ExactlyOneChecksumByteIsAccepted := by
  unfold Obligations.ExactlyOneChecksumByteIsAccepted
  intro cfg body hwf hlen hsync hcid
  have hfl := (cfgBounds_of_wf hwf).frameLen
  have hok : ∀ k : Byte, (∃ d : Decoded, decodeFrame cfg (body ++ [k]) = .ok d) ↔ frameChecksum cfg body = k := by
    intro k
    have hlen' : (body ++ [k]).length = body.length + 1 := List.length_append
    simp only [decodeFrame_eq_ok_iff, hlen', Nat.add_sub_cancel, byteAt_append_length, frameChecksum_append hwf hlen,
      byteAt_append_of_lt (body := body) (k := k) (i := 0) (by omega),
      byteAt_append_of_lt (body := body) (k := k) (i := 1) (by omega)]
    exact ⟨fun ⟨_, _, _, _, hsum, _⟩ => hsum, fun hsum => ⟨_, hlen, hsync, hcid, hsum, rfl⟩⟩
  simp only [hok]
  exact existsUnique_eq'

/-! ## The result registers determine the result -/

/-- R177, D21: the lengths of an error fit the two diagnostic bytes. -/
def HasRegisterImage : Result → Prop
  | .err (.lengthMismatch expected actual) => expected ≤ 255 ∧ actual ≤ 255
  | .err (.badSync _) => True
  | .err (.badCommandId _ _) => True
  | .err (.checksumMismatch _ _) => True
  | .ok _ => True

/-- R167 after R177: the host reads back what was reported. -/
theorem resultOf_regsOf {r : Result} (h : HasRegisterImage r) : resultOf (regsOf r) = some r := by
  match r with
  | .ok _ => rfl
  | .err (.badSync _) => rfl
  | .err (.badCommandId _ _) => rfl
  | .err (.checksumMismatch _ _) => rfl
  | .err (.lengthMismatch expected actual) =>
    obtain ⟨hexpected, hactual⟩ := h
    show some (Result.err (.lengthMismatch (BitVec.ofNat 8 expected).toNat (BitVec.ofNat 8 actual).toNat)) = _
    rw [BitVec.toNat_ofNat, BitVec.toNat_ofNat, Nat.mod_eq_of_lt (by omega), Nat.mod_eq_of_lt (by omega)]

theorem decodeFrame_hasRegisterImage (cfg : Cfg) {f : List Byte} (hlen : f.length ≤ 255) :
    HasRegisterImage (decodeFrame cfg f) := by
  obtain ⟨-, heq⟩ | ⟨-, -, heq⟩ | ⟨-, -, -, -, heq⟩ | ⟨-, -, -, -, heq⟩ | ⟨-, -, -, -, heq⟩ := decodeFrame_cases cfg f
  case inl =>
    rw [heq]
    exact ⟨by have := cfg.frameLen.isLt; omega, hlen⟩
  all_goals
    rw [heq]
    exact trivial

/-- Settles O60: `resultOf` inverts `regsOf` on both results. -/
theorem registersDetermineTheResult : Obligations.RegistersDetermineTheResult := by
  unfold Obligations.RegistersDetermineTheResult
  intro c c' f f' hf hf' heq
  apply Option.some.inj
  rw [← resultOf_regsOf (decodeFrame_hasRegisterImage c hf), ← resultOf_regsOf (decodeFrame_hasRegisterImage c' hf'), heq]

/-! ## A whole transaction (log 11) -/

section

variable {s : State} {frame : List Byte}

theorem runTransaction_of_reachesChecksum (h : (decodeFrame s.cfgR frame).reachesChecksum = true) :
    s.runTransaction frame = (s.afterChecksum frame).report (regsOf (decodeFrame s.cfgR frame)) := by
  rw [State.runTransaction, if_pos h]

theorem runTransaction_of_stopsEarlier (h : (decodeFrame s.cfgR frame).reachesChecksum = false) :
    s.runTransaction frame = s.report (regsOf (decodeFrame s.cfgR frame)) := by
  rw [State.runTransaction, if_neg (Bool.eq_false_iff.mp h)]

/-- R165, R177: the next state of a whole transaction, register by register. -/
theorem transact_decodes (hidle : s.phase = .idle) (hwf : s.cfgPort.wf = true) (hlen : frame.length ≤ 255) :
    ∃ t : State, s.transact frame = .next t ∧
      t.phase = .idle ∧ t.resValid = true ∧ t.resultRegs = regsOf (decodeFrame s.cfgPort frame) ∧
      t.cfgR = s.cfgPort ∧ t.lenR = BitVec.ofNat 8 frame.length ∧ t.lenPort = BitVec.ofNat 8 frame.length ∧
      t.cfgPort = s.cfgPort ∧ t.inbox = s.inbox ∧ t.draws = s.draws ∧ t.disturbed = false ∧
      (∀ i : Nat, Memory.read t.fb i = frame[i]?) ∧
      ((decodeFrame s.cfgPort frame).reachesChecksum = false → t.acc = s.acc ∧ t.idx = s.idx ∧ t.csum = s.csum) ∧
      ((decodeFrame s.cfgPort frame).reachesChecksum = true →
        t.acc = accumulate (byteAt frame 1) (spanBytes s.cfgPort frame) ∧ t.idx = s.cfgPort.csEnd ∧
        t.csum = computeChecksum (byteAt frame 1) (spanBytes s.cfgPort frame)) := by
  refine ⟨_, transact_of_idle hidle hwf hlen, ?_⟩
  cases hreach : (decodeFrame s.cfgPort frame).reachesChecksum with
  | false =>
    rw [runTransaction_of_stopsEarlier hreach]
    exact ⟨rfl, rfl, rfl, rfl, rfl, rfl, rfl, rfl, rfl, rfl, Memory.read_ofBytes frame, fun _ => ⟨rfl, rfl, rfl⟩, nofun⟩
  | true =>
    rw [runTransaction_of_reachesChecksum hreach]
    exact ⟨rfl, rfl, rfl, rfl, rfl, rfl, rfl, rfl, rfl, rfl, Memory.read_ofBytes frame, nofun, fun _ => ⟨rfl, rfl, rfl⟩⟩

/-- R156: the registers after an accepted frame. -/
theorem transact_accepts {d : Decoded} (hidle : s.phase = .idle) (hwf : s.cfgPort.wf = true)
    (hlen : frame.length ≤ 255) (hok : decodeFrame s.cfgPort frame = .ok d) :
    ∃ t : State, s.transact frame = .next t ∧ t.resValid = true ∧ t.resOk = true ∧ t.errCode = 0#3 ∧
      t.voltage = d.voltage ∧ t.hasError = d.hasError ∧ t.voltFlag = d.voltFlag ∧ t.isSupported = d.isSupported ∧
      t.dischg = d.discharge := by
  obtain ⟨t, ht, -, hvalid, hregs, -⟩ := transact_decodes hidle hwf hlen
  rw [hok, State.resultRegs, regsOf, ResultRegs.mk.injEq] at hregs
  obtain ⟨hresOk, herr, -, -, hvoltage, hflags⟩ := hregs
  exact ⟨t, ht, hvalid, hresOk, herr, hvoltage, hflags⟩

/-- R71, R72: under the source's offsets the fields are those of bytes 2 to 4. -/
theorem transact_accepts_layout (hidle : s.phase = .idle) (hwf : s.cfgPort.wf = true)
    (hlen : frame.length = s.cfgPort.frameLen.toNat) (hsync : byteAt frame 0 = 0x55#8)
    (hcid : s.cfgPort.cidCheck = true → byteAt frame 1 = s.cfgPort.expectedCid)
    (hsum : frameChecksum s.cfgPort frame = byteAt frame (frame.length - 1))
    (hstatus : s.cfgPort.statusOff = 2) (hhi : s.cfgPort.voltHiOff = 3) (hlo : s.cfgPort.voltLoOff = 4) :
    ∃ t : State, s.transact frame = .next t ∧ t.resValid = true ∧ t.resOk = true ∧ t.errCode = 0#3 ∧
      t.voltage = byteAt frame 3 ++ byteAt frame 4 ∧
      t.hasError = bitExtract (byteAt frame 2) s.cfgPort.maskError ∧
      t.voltFlag = bitExtract (byteAt frame 2) s.cfgPort.maskVolt ∧
      t.isSupported = (bitExtract (byteAt frame 2) s.cfgPort.maskSupport ^^ s.cfgPort.supportInv) ∧
      t.dischg = bitExtract (byteAt frame 2) s.cfgPort.maskDischg := by
  have hshort : frame.length ≤ 255 := by have := s.cfgPort.frameLen.isLt; omega
  have hfields := transact_accepts hidle hwf hshort (decodeFrame_of_wellFormed hlen hsync hcid hsum)
  rwa [extractFields, hstatus, hhi, hlo] at hfields

end

/-- Settles O37: `FRAME6` is the transaction of its six bytes. -/
theorem sixByteFrameIsDecoded : Obligations.SixByteFrameIsDecoded := by
  unfold Obligations.SixByteFrameIsDecoded
  intro s c st h l k hidle hwf
  exact transact_decodes (frame := [0x55#8, c, st, h, l, k]) hidle hwf (by simp)

/-- Settles O38: `FRAME7` is the transaction of its seven bytes. -/
theorem sevenByteFrameIsDecoded : Obligations.SevenByteFrameIsDecoded := by
  unfold Obligations.SevenByteFrameIsDecoded
  intro s c st h l u k hidle hwf
  exact transact_decodes (frame := [0x55#8, c, st, h, l, u, k]) hidle hwf (by simp)

/-- Settles O39: under the layout the span is the bytes from `status` up to the checksum, so every check passes, and the
offsets select `status`, `vhi` and `vlo`. -/
theorem defaultLayoutFramesAreAccepted : Obligations.DefaultLayoutFramesAreAccepted := by
  unfold Obligations.DefaultLayoutFramesAreAccepted
  intro s c st h l u hidle hwf hcid hfirst hstatus hhi hlo
  constructor
  · intro hlen hend
    exact transact_accepts_layout (frame := [0x55#8, c, st, h, l, computeChecksum c [st, h, l]]) hidle hwf (by rw [hlen]; rfl)
      rfl hcid (by rw [frameChecksum, spanBytes, hfirst, hend]; rfl) hstatus hhi hlo
  · intro hlen hend
    exact transact_accepts_layout (frame := [0x55#8, c, st, h, l, u, computeChecksum c [st, h, l, u]]) hidle hwf
      (by rw [hlen]; rfl) rfl hcid (by rw [frameChecksum, spanBytes, hfirst, hend]; rfl) hstatus hhi hlo

/-- Settles O40: a busy block is presented the bytes, an idle one refuses the configuration. -/
theorem frameWhileBusyOrIllFormedDecodesNothing : Obligations.FrameWhileBusyOrIllFormedDecodesNothing := by
  unfold Obligations.FrameWhileBusyOrIllFormedDecodesNothing
  intro s c st h l u k
  have h6 : [0x55#8, c, st, h, l, k].length ≤ 255 := by simp
  have h7 : [0x55#8, c, st, h, l, u, k].length ≤ 255 := by simp
  constructor
  · intro hbusy
    exact ⟨⟨_, transact_of_busy hbusy h6⟩, ⟨_, transact_of_busy hbusy h7⟩⟩
  · intro hidle hill
    exact ⟨transact_of_illFormed hidle hill h6, transact_of_illFormed hidle hill h7⟩

/-- Settles O59: an idle block that answered the frame was configured well and the frame presentable, so the registers
hold a result that reads back. -/
theorem hostReadsTheDecodedResult : Obligations.HostReadsTheDecodedResult := by
  unfold Obligations.HostReadsTheDecodedResult
  refine ⟨fun s hnone => by simp [State.readResult, hnone], fun s t frame hidle h => ?_⟩
  obtain ⟨hlen, ⟨hbusy, -⟩ | ⟨-, rfl⟩⟩ := transact_next h
  · exact absurd hidle hbusy
  · exact resultOf_regsOf (decodeFrame_hasRegisterImage s.cfgPort hlen)

end Sys2Proof.Proofs
end

section
/-! Runs of the machine: what a run keeps, that every transaction ends (R232), and that a result depends on the ports and
the buffer alone (R40). -/

namespace Sys2Proof.Proofs

open Sys2Proof Sys2Proof.Machine

/-! ## Runs -/

section

variable {s t u : State} {m n : Nat}

theorem runSteps_zero (s : State) : runSteps 0 s = .next s := rfl

theorem runSteps_succ (h : step s = .next t) (n : Nat) : runSteps (n + 1) s = runSteps n t := by
  have hcore : Sys2Proof.core.step s = .next t := h
  have hrun : Sys2Proof.core.run (n + 1) s = Sys2Proof.core.run n t := by simp only [Host.Core.run, hcore]
  exact hrun

/-- A run that answers a next state began with a step that did. -/
theorem runSteps_succ_next (h : runSteps (n + 1) s = .next t) : ∃ u : State, step s = .next u ∧ runSteps n u = .next t := by
  cases hstep : step s with
  | next u => exact ⟨u, rfl, (runSteps_succ hstep n).symm.trans h⟩
  | fault f =>
    have hcore : Sys2Proof.core.step s = .fault f := hstep
    simp only [runSteps, Host.Core.run, hcore, reduceCtorEq] at h
  | refused r =>
    have hcore : Sys2Proof.core.step s = .refused r := hstep
    simp only [runSteps, Host.Core.run, hcore, reduceCtorEq] at h

theorem runSteps_add (h : runSteps m s = .next u) (n : Nat) : runSteps (m + n) s = runSteps n u := by
  induction m generalizing s with
  | zero =>
    cases h
    rw [Nat.zero_add]
  | succ m ih =>
    obtain ⟨v, hstep, hrun⟩ := runSteps_succ_next h
    rw [Nat.add_right_comm, runSteps_succ hstep, ih hrun]

/-- Every shorter run answers a next state too, and the rest of the run goes on from it. -/
theorem runSteps_split (h : runSteps (m + n) s = .next t) :
    ∃ u : State, runSteps m s = .next u ∧ runSteps n u = .next t := by
  induction m generalizing s with
  | zero => exact ⟨s, rfl, by rwa [Nat.zero_add] at h⟩
  | succ m ih =>
    rw [Nat.add_right_comm] at h
    obtain ⟨v, hstep, hrun⟩ := runSteps_succ_next h
    obtain ⟨u, hu, hrest⟩ := ih hrun
    exact ⟨u, (runSteps_succ hstep m).trans hu, hrest⟩

/-- What every step keeps, every run keeps. -/
theorem runSteps_keeps {P : State → Prop} (hstep : ∀ s t : State, P s → step s = .next t → P t)
    (h : runSteps n s = .next t) (hs : P s) : P t := by
  induction n generalizing s with
  | zero =>
    cases h
    exact hs
  | succ n ih =>
    obtain ⟨u, hu, hrun⟩ := runSteps_succ_next h
    exact ih hrun (hstep s u hs hu)

theorem step_of_micro {p : Phase} (hin : s.inbox = []) (hp : s.phase = p) (h : MicroStep s p t) : step s = .next t :=
  (step_next_iff hin).mpr (hp ▸ h)

/-- R166: with no host move pending, an idle block stays as it is. -/
theorem step_of_idle (hin : s.inbox = []) (hidle : s.phase = .idle) : step s = .next s :=
  step_of_micro hin hidle .hold

theorem runSteps_of_idle (hin : s.inbox = []) (hidle : s.phase = .idle) (n : Nat) : runSteps n s = .next s := by
  induction n with
  | zero => rfl
  | succ n ih => rw [runSteps_succ (step_of_idle hin hidle), ih]

/-- No step of the sequencer makes a host move appear. -/
theorem step_inbox_nil (hin : s.inbox = []) (h : step s = .next t) : t.inbox = [] :=
  ((step_next_iff hin).mp h).sameEnvironment.inbox.trans hin

end

/-- Settles O31: the hold is one micro-operation, without a read. -/
theorem idleHolds : Obligations.IdleHolds := by
  unfold Obligations.IdleHolds
  refine ⟨decodeWord_phase_code .idle, fun s => ⟨rfl, fun hidle hin => ⟨step_of_idle hin hidle, ?_⟩⟩⟩
  rw [State.reads, hidle]

/-! ## Every transaction ends -/

/-- How many more steps a transaction takes at most: those of the accepting path from its phase on (R173). -/
def stepsLeft (s : State) : Nat :=
  match s.phase with
  | .idle => 0
  | .vLen => 8 + (s.cfgR.csEnd.toNat - s.cfgR.csFirst.toNat)
  | .vSync => 7 + (s.cfgR.csEnd.toNat - s.cfgR.csFirst.toNat)
  | .vCid => 6 + (s.cfgR.csEnd.toNat - s.cfgR.csFirst.toNat)
  | .cInit => 5 + (s.cfgR.csEnd.toNat - s.cfgR.csFirst.toNat)
  | .cAdd => 4 + (s.cfgR.csEnd.toNat - s.idx.toNat)
  | .cFin => 4
  | .vCsum => 3
  | .xFlags => 2
  | .xVolt => 1

section

variable {s t : State}

theorem stepsLeft_of_idle (h : t.phase = .idle) : stepsLeft t = 0 := by rw [stepsLeft, h]

theorem stepsLeft_pos (hbusy : s.phase ≠ .idle) : 0 < stepsLeft s := by
  unfold stepsLeft
  cases hp : s.phase with
  | idle => exact absurd hp hbusy
  | _ => dsimp only; omega

/-- R173: `CS_FIRST` is at least 2 and `CS_END` at most 6, so the span has at most four bytes. -/
theorem stepsLeft_le (hi : SeqInv s) (hbusy : s.phase ≠ .idle) : stepsLeft s ≤ 12 := by
  obtain ⟨hfl, hfirst, hspan, hend, -⟩ := cfgBounds_of_wf (hi.cfgWf hbusy)
  have hidx := hi.idxInSpan
  unfold stepsLeft
  cases hp : s.phase with
  | cAdd =>
    have := (hidx hp).1
    dsimp only
    omega
  | _ => dsimp only; omega

/-- Each row of the transition table brings the end nearer. -/
theorem MicroStep.stepsLeft_lt {p : Phase} (h : MicroStep s p t) (hp : s.phase = p) (hi : SeqInv s)
    (hbusy : p ≠ .idle) : stepsLeft t < stepsLeft s := by
  have hpos : 0 < stepsLeft s := stepsLeft_pos (hp ▸ hbusy)
  cases h with
  | hold => exact absurd rfl hbusy
  | lengthFails | syncFails | cidFails | checksumFails | voltage => rwa [stepsLeft_of_idle rfl]
  | lengthPasses | syncPasses | cidPasses | spanBegins | spanIsEmpty | complements | checksumPasses | flags =>
    simp only [stepsLeft, hp, State.toPhase_phase, State.toPhase_cfgR, State.noteRead_cfgR]
    omega
  | spanEnds hread hlast =>
    have := (hi.idxInSpan hp).2
    simp only [stepsLeft, hp]
    omega
  | spanGoesOn hread hmore =>
    have hidx := idx_succ_toNat (Nat.lt_trans hmore s.cfgR.csEnd.isLt)
    simp only [stepsLeft, hp, State.noteRead_cfgR, hidx]
    omega

/-- R232: by induction on a bound of the steps left. -/
theorem ends_within {k : Nat} (hk : stepsLeft s ≤ k) (hi : SeqInv s) (hin : s.inbox = []) (hbusy : s.phase ≠ .idle) :
    ∃ (n : Nat) (t : State), n ≤ k ∧ runSteps n s = .next t ∧ t.phase = .idle ∧ t.resValid = true := by
  induction k generalizing s with
  | zero =>
    have := stepsLeft_pos hbusy
    omega
  | succ k ih =>
    obtain ⟨t, hmicro⟩ := exists_microStep (reads_lt_lenR hi) hi.readable
    have hstep : step s = .next t := (step_next_iff hin).mpr hmicro
    by_cases hidle : t.phase = .idle
    · exact ⟨1, t, by omega, (runSteps_succ hstep 0).trans rfl, hidle,
        (hmicro.resValid_iff hbusy (hi.noResultWhileBusy hbusy)).mpr hidle⟩
    · have hless := hmicro.stepsLeft_lt rfl hi hbusy
      obtain ⟨n, u, hn, hrun, hend⟩ :=
        ih (by omega) (stepKeepsSequencerInvariant s t hi hstep) (step_inbox_nil hin hstep) hidle
      exact ⟨n + 1, u, by omega, (runSteps_succ hstep n).trans hrun, hend⟩

end

/-- Settles O57. -/
theorem everyTransactionEnds : Obligations.EveryTransactionEnds := by
  unfold Obligations.EveryTransactionEnds
  intro s hi hin hbusy
  exact ends_within (stepsLeft_le hi hbusy) hi hin hbusy

/-! ## A result depends on the ports and the buffer alone -/

/-- Two transactions with the same sample and buffer, in the same phase: the registers agree where the phases to come read
them (R40), and the result registers once a result is valid. -/
structure SameTransaction (s s' : State) : Prop where
  phase : s'.phase = s.phase
  cfgR : s'.cfgR = s.cfgR
  lenR : s'.lenR = s.lenR
  fb : s'.fb = s.fb
  undisturbed : s.disturbed = false
  undisturbed' : s'.disturbed = false
  resValid : s'.resValid = s.resValid
  idx : s.phase = .cAdd → s'.idx = s.idx
  acc : s.phase = .cAdd ∨ s.phase = .cFin → s'.acc = s.acc
  csum : s.phase = .vCsum → s'.csum = s.csum
  flags : s.phase = .xVolt → s'.flags = s.flags
  result : s.resValid = true → s'.resultRegs = s.resultRegs

section

variable {s s' t t' : State}

/-- R57: an undisturbed buffer answers by its bytes alone. -/
theorem SameTransaction.memRead (h : SameTransaction s s') (off : Nat) : s'.memRead off = s.memRead off := by
  simp only [State.memRead, h.lenR, h.fb, h.undisturbed, h.undisturbed', Bool.false_eq_true, if_false]

theorem SameTransaction.fail (h : SameTransaction s s') (code : BitVec 3) (d0 d1 : Byte) :
    SameTransaction (s.fail code d0 d1) (s'.fail code d0 d1) :=
  { h with
    phase := rfl, resValid := rfl, idx := nofun, acc := by simp, csum := nofun, flags := nofun, result := fun _ => rfl }

/-- The phases that no register but the sample is read in. -/
theorem SameTransaction.toPhase (h : SameTransaction s s') {p : Phase}
    (hp : p ≠ .cAdd ∧ p ≠ .cFin ∧ p ≠ .vCsum ∧ p ≠ .xVolt) : SameTransaction (s.toPhase p) (s'.toPhase p) :=
  { h with
    phase := rfl
    idx := fun h => absurd h hp.1
    acc := fun h => absurd h (not_or.mpr ⟨hp.1, hp.2.1⟩)
    csum := fun h => absurd h hp.2.2.1
    flags := fun h => absurd h hp.2.2.2 }

/-- The phases of the span, which write `ACC` and `IDX`. -/
theorem SameTransaction.toSpan (h : SameTransaction s s') (a : BitVec 16) (i : BitVec 3) {p : Phase}
    (hp : p ≠ .vCsum ∧ p ≠ .xVolt) :
    SameTransaction { s with acc := a, idx := i, phase := p } { s' with acc := a, idx := i, phase := p } :=
  { h with
    phase := rfl, idx := fun _ => rfl, acc := fun _ => rfl, csum := fun h => absurd h hp.1, flags := fun h => absurd h hp.2 }

/-- R40: the second transaction does the row of the first. -/
theorem SameTransaction.follows {p : Phase} (hsame : SameTransaction s s') (hp : s.phase = p) (h : MicroStep s p t) :
    ∃ t' : State, MicroStep s' p t' ∧ SameTransaction t t' := by
  have hread := hsame.memRead
  have hc := hsame.cfgR
  have hnote : s.noteRead = s := State.noteRead_of_undisturbed hsame.undisturbed
  have hnote' : s'.noteRead = s' := State.noteRead_of_undisturbed hsame.undisturbed'
  cases h with
  | hold => exact ⟨_, .hold, hsame⟩
  | lengthPasses h => exact ⟨_, .lengthPasses (by rw [hsame.lenR, hc, h]), hsame.toPhase (by simp)⟩
  | lengthFails h =>
    refine ⟨_, .lengthFails (by rwa [hsame.lenR, hc]), ?_⟩
    rw [hsame.lenR, hc]
    exact hsame.fail _ _ _
  | syncPasses h =>
    refine ⟨_, .syncPasses (by rwa [hread]), ?_⟩
    rw [hnote, hnote']
    exact hsame.toPhase (by simp)
  | syncFails h hne =>
    refine ⟨_, .syncFails (by rwa [hread]) hne, ?_⟩
    rw [hnote, hnote']
    exact hsame.fail _ _ _
  | cidPasses h hcid =>
    refine ⟨_, .cidPasses (by rwa [hread]) (by rwa [hc]), ?_⟩
    rw [hnote, hnote']
    exact hsame.toPhase (by simp)
  | cidFails h hcheck hne =>
    refine ⟨_, .cidFails (by rwa [hread]) (by rwa [hc]) (by rwa [hc]), ?_⟩
    rw [hnote, hnote', hc]
    exact hsame.fail _ _ _
  | spanBegins h hspan =>
    refine ⟨_, .spanBegins (by rwa [hread]) (by rwa [hc]), ?_⟩
    rw [hnote, hnote', hc]
    exact hsame.toSpan _ _ (by simp)
  | spanIsEmpty h hspan =>
    refine ⟨_, .spanIsEmpty (by rwa [hread]) (by rwa [hc]), ?_⟩
    rw [hnote, hnote', hc]
    exact hsame.toSpan _ _ (by simp)
  | spanGoesOn h hmore =>
    have hidx := hsame.idx hp
    have hacc := hsame.acc (.inl hp)
    refine ⟨_, .spanGoesOn (by rwa [hread, hidx]) (by rwa [hidx, hc]), ?_⟩
    rw [hnote, hnote', hidx, hacc]
    exact hsame.toSpan _ _ (by simp)
  | spanEnds h hlast =>
    have hidx := hsame.idx hp
    have hacc := hsame.acc (.inl hp)
    refine ⟨_, .spanEnds (by rwa [hread, hidx]) (by rwa [hidx, hc]), ?_⟩
    rw [hnote, hnote', hidx, hacc]
    exact hsame.toSpan _ _ (by simp)
  | complements =>
    refine ⟨_, .complements, ?_⟩
    rw [hsame.acc (.inr hp)]
    exact { hsame with phase := rfl, idx := nofun, acc := by simp, csum := fun _ => rfl, flags := nofun }
  | checksumPasses h =>
    refine ⟨_, .checksumPasses (by rwa [hread, hc, hsame.csum hp]), ?_⟩
    rw [hnote, hnote']
    exact hsame.toPhase (by simp)
  | checksumFails h hne =>
    refine ⟨_, .checksumFails (by rwa [hread, hc]) (by rwa [hsame.csum hp]), ?_⟩
    rw [hnote, hnote', hsame.csum hp]
    exact hsame.fail _ _ _
  | flags h =>
    refine ⟨_, .flags (by rwa [hread, hc]), ?_⟩
    rw [hnote, hnote', hc]
    refine { hsame with
      phase := rfl, cfgR := hc, idx := nofun, acc := by simp, csum := nofun, flags := fun _ => rfl, result := fun hv => ?_ }
    have hres := hsame.result hv
    simp only [State.resultRegs, ResultRegs.mk.injEq] at hres ⊢
    obtain ⟨hok, herr, hd0, hd1, hvolt, -⟩ := hres
    exact ⟨hok, herr, hd0, hd1, hvolt, trivial, trivial, trivial, trivial⟩
  | @voltage hi lo hhi hlo =>
    have hlo' : s'.noteRead.memRead s'.cfgR.voltLoOff.toNat = .ok lo := by
      rw [hnote] at hlo
      rwa [hnote', hread, hc]
    refine ⟨_, .voltage (by rwa [hread, hc]) hlo', ?_⟩
    rw [hnote, hnote', hnote, hnote']
    refine { hsame with
      phase := rfl, resValid := rfl, idx := nofun, acc := by simp, csum := nofun, flags := nofun, result := fun _ => ?_ }
    have hflags := hsame.flags hp
    simp only [State.flags, Prod.mk.injEq] at hflags
    simp only [State.resultRegs, ResultRegs.mk.injEq, State.succeed_resOk, State.succeed_errCode, State.succeed_diag0,
      State.succeed_diag1, State.succeed_voltage, State.succeed_hasError, State.succeed_voltFlag,
      State.succeed_isSupported, State.succeed_dischg, true_and]
    exact hflags

theorem SameTransaction.runs {n : Nat} (hsame : SameTransaction s s') (hin : s.inbox = []) (hin' : s'.inbox = [])
    (h : runSteps n s = .next t) (h' : runSteps n s' = .next t') : SameTransaction t t' := by
  induction n generalizing s s' with
  | zero =>
    cases h
    cases h'
    exact hsame
  | succ n ih =>
    obtain ⟨u, hu, hrun⟩ := runSteps_succ_next h
    obtain ⟨u', hu', hrun'⟩ := runSteps_succ_next h'
    obtain ⟨v, hv, hsame'⟩ := hsame.follows rfl ((step_next_iff hin).mp hu)
    cases (step_of_micro hin' hsame.phase hv).symm.trans hu'
    exact ih hsame' (step_inbox_nil hin hu) (step_inbox_nil hin' hu') hrun hrun'

theorem SameTransaction.readResult (h : SameTransaction s s') : s'.readResult = s.readResult := by
  rw [State.readResult, State.readResult, h.resValid]
  split
  case isTrue hvalid => rw [h.result hvalid]
  case isFalse => rfl

/-- R165: two idle blocks with the same ports and buffer start the same transaction. -/
theorem sameTransaction_latch (hcfg : s'.cfgPort = s.cfgPort) (hlen : s'.lenPort = s.lenPort) (hfb : s'.fb = s.fb) :
    SameTransaction s.latch s'.latch where
  phase := rfl
  cfgR := hcfg
  lenR := hlen
  fb := hfb
  undisturbed := rfl
  undisturbed' := rfl
  resValid := rfl
  idx := nofun
  acc := by simp
  csum := nofun
  flags := nofun
  result := nofun

/-- A `START` that an idle block answers is taken. -/
theorem step_start_of_idle {rest : List HostMove} (hidle : s.phase = .idle) (hin : s.inbox = .pins false true :: rest)
    (h : step s = .next t) : t = (s.withInbox rest).latch :=
  execStart_next_of_idle (s := s.withInbox rest) hidle ((step_of_inbox_cons hin).symm.trans h)

end

/-- Settles O58: `START` makes the two blocks one transaction, which stays one over the rest of the runs. -/
theorem resultDoesNotDependOnOldRegisters : Obligations.ResultDoesNotDependOnOldRegisters := by
  unfold Obligations.ResultDoesNotDependOnOldRegisters
  intro s s' t t' n hidle hidle' hin hin' hcfg hlen hfb h h'
  rw [Nat.add_comm] at h h'
  obtain ⟨u, hu, hrun⟩ := runSteps_succ_next h
  obtain ⟨u', hu', hrun'⟩ := runSteps_succ_next h'
  cases step_start_of_idle hidle hin hu
  cases step_start_of_idle hidle' hin' hu'
  have hlatch := sameTransaction_latch (s := s.withInbox []) (s' := s'.withInbox []) hcfg hlen hfb
  have hend := hlatch.runs rfl rfl hrun hrun'
  exact ⟨hend.phase, hend.resValid, hend.readResult⟩

end Sys2Proof.Proofs
end

section
/-! The two views agree (R110, R173, R176): a transaction left alone by the host takes the steps R173 counts, and its last
step leaves the state of the function view. -/

namespace Sys2Proof.Proofs

open Sys2Proof Sys2Proof.Machine

/-! ## A frame in the buffer -/

/-- The buffer holds the frame, of the length sampled, and neither a host move nor a disturbance changes that. -/
structure Presents (s : State) (frame : List Byte) : Prop where
  inbox : s.inbox = []
  undisturbed : s.disturbed = false
  lenR : s.lenR.toNat = frame.length
  bytes : ∀ i : Nat, i < frame.length → Memory.read s.fb i = frame[i]?

section

variable {s t : State} {frame : List Byte}

/-- R52: below the length, `MemRead` is the byte of the function view. -/
theorem Presents.memRead (h : Presents s frame) {i : Nat} (hi : i < frame.length) :
    s.memRead i = .ok (byteAt frame i) := by
  refine State.memRead_of_read (h.lenR ▸ hi) h.undisturbed ?_
  rw [h.bytes i hi, byteAt, List.getElem?_eq_getElem hi, List.getD_eq_getElem _ _ hi]

theorem Presents.noteRead (h : Presents s frame) : s.noteRead = s := State.noteRead_of_undisturbed h.undisturbed

theorem Presents.lenR_eq (h : Presents s frame) (hlen : frame.length = s.cfgR.frameLen.toNat) :
    s.lenR = s.cfgR.frameLen.setWidth 8 :=
  BitVec.eq_of_toNat_eq (by rw [h.lenR, hlen, zext8_toNat])

theorem Presents.memRead_lastOff (h : Presents s frame) (hwf : s.cfgR.wf = true)
    (hlen : frame.length = s.cfgR.frameLen.toNat) :
    s.memRead (lastOff s.cfgR) = .ok (byteAt frame (frame.length - 1)) := by
  have hfl := (cfgBounds_of_wf hwf).frameLen
  rw [lastOff, ← hlen]
  exact h.memRead (by omega)

theorem Presents.micro (h : Presents s frame) {p : Phase} (hmicro : MicroStep s p t) : Presents t frame := by
  obtain ⟨-, hlenR, hdist⟩ := hmicro.keepsSample
  obtain ⟨hfb, -, -, hin⟩ := hmicro.sameEnvironment
  exact ⟨hin.trans h.inbox, hdist.trans h.undisturbed, hlenR ▸ h.lenR, hfb ▸ h.bytes⟩

theorem Presents.step (h : Presents s frame) {p : Phase} (hp : s.phase = p) (hmicro : MicroStep s p t) :
    step s = .next t :=
  step_of_micro h.inbox hp hmicro

/-! ## The checksum phases -/

theorem bytesBetween_cons {a b : Nat} (hab : a < b) (ha : a < frame.length) :
    bytesBetween frame a b = byteAt frame a :: bytesBetween frame (a + 1) b := by
  have hrest : b - a = b - (a + 1) + 1 := by omega
  rw [bytesBetween, bytesBetween, byteAt, List.drop_eq_getElem_cons ha, hrest, List.take_succ_cons,
    List.getD_eq_getElem _ _ ha]

theorem bytesBetween_self (a : Nat) : bytesBetween frame a a = [] := by
  rw [bytesBetween, Nat.sub_self, List.take_zero]

/-- R108 to the end of the span: as many steps as bytes are left, each folding one in. -/
theorem cAdd_runs {n : Nat} (hframe : Presents s frame) (hp : s.phase = .cAdd)
    (hidx : s.idx.toNat + (n + 1) = s.cfgR.csEnd.toNat) (hend : s.cfgR.csEnd.toNat ≤ frame.length) :
    runSteps (n + 1) s = .next { s with
      acc := (bytesBetween frame s.idx.toNat s.cfgR.csEnd.toNat).foldl csStep s.acc
      idx := s.cfgR.csEnd
      phase := .cFin } := by
  induction n generalizing s with
  | zero =>
    have hread := hframe.memRead (i := s.idx.toNat) (by omega)
    have hnext : (s.idx + 1).toNat = s.idx.toNat + 1 := idx_succ_toNat (by have := s.cfgR.csEnd.isLt; omega)
    have hlast : s.idx + 1 = s.cfgR.csEnd := BitVec.eq_of_toNat_eq (by omega)
    have hstep := hframe.step hp (.spanEnds hread (by omega))
    rw [hframe.noteRead, hlast] at hstep
    rw [runSteps_succ hstep, bytesBetween_cons (by omega) (by omega), ← hnext, hlast, bytesBetween_self]
    rfl
  | succ n ih =>
    have hread := hframe.memRead (i := s.idx.toNat) (by omega)
    have hnext : (s.idx + 1).toNat = s.idx.toNat + 1 := idx_succ_toNat (by have := s.cfgR.csEnd.isLt; omega)
    have hstep := hframe.step hp (.spanGoesOn hread (by omega))
    rw [hframe.noteRead] at hstep
    have hidx' : (s.idx + 1).toNat + (n + 1) = s.cfgR.csEnd.toNat := by omega
    have hrest := ih
      (s := { s with acc := csStep s.acc (byteAt frame s.idx.toNat), idx := s.idx + 1, phase := .cAdd })
      { hframe with } rfl hidx' hend
    rw [runSteps_succ hstep, hrest, bytesBetween_cons (a := s.idx.toNat) (by omega) (by omega), List.foldl_cons, ← hnext]

/-- R107, R108: from `C_INIT` through the span, empty or not. -/
theorem span_runs (hframe : Presents s frame) (hp : s.phase = .cInit) (hwf : s.cfgR.wf = true)
    (hlen : frame.length = s.cfgR.frameLen.toNat) :
    runSteps (s.cfgR.csEnd.toNat - s.cfgR.csFirst.toNat + 1) s = .next { s with
      acc := accumulate (byteAt frame 1) (spanBytes s.cfgR frame)
      idx := s.cfgR.csEnd
      phase := .cFin } := by
  obtain ⟨hfl, hfirst, hspan, hend, -⟩ := cfgBounds_of_wf hwf
  have hread := hframe.memRead (i := 1) (by omega)
  by_cases hempty : s.cfgR.csFirst.toNat = s.cfgR.csEnd.toNat
  · have hnone : spanBytes s.cfgR frame = [] := by rw [spanBytes, hempty, bytesBetween_self]
    have hsame : s.cfgR.csFirst = s.cfgR.csEnd := BitVec.eq_of_toNat_eq hempty
    have hstep := hframe.step hp (.spanIsEmpty hread (by omega))
    rw [hframe.noteRead] at hstep
    rw [hempty, Nat.sub_self, runSteps_succ hstep, hnone, hsame]
    rfl
  · obtain ⟨n, hn⟩ : ∃ n : Nat, s.cfgR.csEnd.toNat = s.cfgR.csFirst.toNat + (n + 1) :=
      ⟨s.cfgR.csEnd.toNat - s.cfgR.csFirst.toNat - 1, by omega⟩
    have hstep := hframe.step hp (.spanBegins hread (by omega))
    rw [hframe.noteRead] at hstep
    have hloop := cAdd_runs (s := { s with acc := zext16 (byteAt frame 1), idx := s.cfgR.csFirst, phase := .cAdd })
      (frame := frame) { hframe with } rfl hn.symm (by show s.cfgR.csEnd.toNat ≤ frame.length; omega)
    rw [hn, Nat.add_sub_cancel_left, runSteps_succ hstep, hloop]
    rfl

/-- R110: the span, then `C_FIN`. -/
theorem checksum_runs (hframe : Presents s frame) (hp : s.phase = .cInit) (hwf : s.cfgR.wf = true)
    (hlen : frame.length = s.cfgR.frameLen.toNat) :
    runSteps (2 + (s.cfgR.csEnd.toNat - s.cfgR.csFirst.toNat)) s =
      .next ((s.afterChecksum frame).toPhase .vCsum) := by
  have hafter : Presents { s with
      acc := accumulate (byteAt frame 1) (spanBytes s.cfgR frame)
      idx := s.cfgR.csEnd
      phase := .cFin } frame := { hframe with }
  rw [Nat.add_comm 2, runSteps_add (span_runs hframe hp hwf hlen) 1, runSteps_succ (hafter.step rfl .complements)]
  rfl

end

/-- Settles O54: the hypotheses say that the buffer presents the frame. -/
theorem checksumPhasesComputeTheChecksum : Obligations.ChecksumPhasesComputeTheChecksum := by
  unfold Obligations.ChecksumPhasesComputeTheChecksum
  intro s frame hin hp hdist hwf hlen hlenR hbytes
  exact checksum_runs ⟨hin, hdist, hlenR, hbytes⟩ hp hwf hlen

/-! ## The whole transaction -/

/-- The transaction is running for `n` steps more, and the step after them is its last, to `t`. -/
def EndsAfter (n : Nat) (s t : State) : Prop :=
  ∃ u : State, runSteps n s = .next u ∧ u.phase ≠ .idle ∧ step u = .next t

section

variable {s t u : State} {m n : Nat} {frame : List Byte}

theorem endsAfter_zero (hbusy : s.phase ≠ .idle) (h : step s = .next t) : EndsAfter 0 s t := ⟨s, rfl, hbusy, h⟩

theorem endsAfter_succ (h : step s = .next u) (hend : EndsAfter n u t) : EndsAfter (n + 1) s t := by
  obtain ⟨v, hrun, hlast⟩ := hend
  exact ⟨v, (runSteps_succ h n).trans hrun, hlast⟩

theorem endsAfter_add (h : runSteps m s = .next u) (hend : EndsAfter n u t) : EndsAfter (m + n) s t := by
  obtain ⟨v, hrun, hlast⟩ := hend
  exact ⟨v, (runSteps_add h n).trans hrun, hlast⟩

/-- One step after the last running state the run is at the end. -/
theorem EndsAfter.runs (h : EndsAfter n s t) : runSteps (n + 1) s = .next t := by
  obtain ⟨u, hrun, -, hlast⟩ := h
  rw [runSteps_add hrun 1, runSteps_succ hlast, runSteps_zero]

/-- Up to its last step a transaction is running, since an idle block stays idle. -/
theorem EndsAfter.busy_before {k : Nat} (h : EndsAfter n s t) (hin : s.inbox = []) (hk : k ≤ n) :
    ∃ v : State, runSteps k s = .next v ∧ v.phase ≠ .idle := by
  obtain ⟨u, hrun, hbusy, -⟩ := h
  rw [← Nat.add_sub_cancel' hk] at hrun
  obtain ⟨v, hv, hrest⟩ := runSteps_split hrun
  refine ⟨v, hv, fun hidle => hbusy ?_⟩
  have hnil : v.inbox = [] := runSteps_keeps (P := fun s => s.inbox = []) (fun _ _ => step_inbox_nil) hv hin
  cases (runSteps_of_idle hnil hidle _).symm.trans hrest
  exact hidle

/-- R121, R145, R156: the three last phases of an accepted frame. -/
theorem endsAfter_fields (hframe : Presents s frame) (hp : s.phase = .vCsum) (hwf : s.cfgR.wf = true)
    (hlen : frame.length = s.cfgR.frameLen.toNat) (hsum : s.csum = byteAt frame (frame.length - 1)) :
    EndsAfter 2 s (s.report (regsOf (.ok (extractFields s.cfgR frame)))) := by
  obtain ⟨hfl, -, -, -, hstatus, hhi, hlo⟩ := cfgBounds_of_wf hwf
  have hcsum : MicroStep s .vCsum (s.noteRead.toPhase .xFlags) :=
    .checksumPasses (by rw [hframe.memRead_lastOff hwf hlen, hsum])
  rw [hframe.noteRead] at hcsum
  have hframe₁ := hframe.micro hcsum
  have hflags := MicroStep.flags (hframe₁.memRead (i := s.cfgR.statusOff.toNat) (by omega))
  rw [hframe₁.noteRead] at hflags
  have hframe₂ := hframe₁.micro hflags
  have hvolt := MicroStep.voltage (hframe₂.memRead (i := s.cfgR.voltHiOff.toNat) (by omega))
    (by rw [hframe₂.noteRead]; exact hframe₂.memRead (i := s.cfgR.voltLoOff.toNat) (by omega))
  rw [hframe₂.noteRead, hframe₂.noteRead] at hvolt
  exact endsAfter_succ (hframe.step hp hcsum)
    (endsAfter_succ (hframe₁.step rfl hflags) (endsAfter_zero (by simp) (hframe₂.step rfl hvolt)))

theorem Presents.toPhase (h : Presents s frame) (p : Phase) : Presents (s.toPhase p) frame := { h with }

/-! The checks that pass, each leaving the registers as they were (R118 to R120). -/

theorem vLen_passes (hframe : Presents s frame) (hp : s.phase = .vLen) (hlen : s.lenR = s.cfgR.frameLen.setWidth 8) :
    step s = .next (s.toPhase .vSync) :=
  hframe.step hp (.lengthPasses hlen)

theorem vSync_passes (hframe : Presents s frame) (hpos : 0 < frame.length) (hsync : byteAt frame 0 = 0x55#8) :
    step (s.toPhase .vSync) = .next (s.toPhase .vCid) := by
  have h := hframe.toPhase .vSync
  have hstep := h.step rfl (.syncPasses (by rw [h.memRead hpos, hsync]))
  rwa [h.noteRead] at hstep

theorem vCid_passes (hframe : Presents s frame) (hpos : 1 < frame.length)
    (hcid : s.cfgR.cidCheck = true → byteAt frame 1 = s.cfgR.expectedCid) :
    step (s.toPhase .vCid) = .next (s.toPhase .cInit) := by
  have h := hframe.toPhase .vCid
  have hstep := h.step rfl (.cidPasses (h.memRead hpos) hcid)
  rwa [h.noteRead] at hstep

/-- R171, R173: the five steps and the span before `V_CSUM`. -/
theorem endsAfter_checksum (hframe : Presents s frame) (hp : s.phase = .vLen) (hwf : s.cfgR.wf = true)
    (hlen : frame.length = s.cfgR.frameLen.toNat) (hsync : byteAt frame 0 = 0x55#8)
    (hcid : s.cfgR.cidCheck = true → byteAt frame 1 = s.cfgR.expectedCid)
    (hend : EndsAfter n ((s.afterChecksum frame).toPhase .vCsum) t) :
    EndsAfter (5 + (s.cfgR.csEnd.toNat - s.cfgR.csFirst.toNat) + n) s t := by
  have hfl := (cfgBounds_of_wf hwf).frameLen
  have hcount : 5 + (s.cfgR.csEnd.toNat - s.cfgR.csFirst.toNat) + n =
      2 + (s.cfgR.csEnd.toNat - s.cfgR.csFirst.toNat) + n + 1 + 1 + 1 := by omega
  rw [hcount]
  exact endsAfter_succ (vLen_passes hframe hp (hframe.lenR_eq hlen))
    (endsAfter_succ (vSync_passes hframe (by omega) hsync)
      (endsAfter_succ (vCid_passes hframe (by omega) hcid)
        (endsAfter_add (checksum_runs (hframe.toPhase .cInit) rfl hwf hlen) hend)))

/-- R173, R176: from `V_LEN` on, the steps of the outcome, and the function view's state at the end. -/
theorem transaction_ends (hframe : Presents s frame) (hp : s.phase = .vLen) (hwf : s.cfgR.wf = true) :
    EndsAfter (stepCount s.cfgR (decodeFrame s.cfgR frame) - 1) s (s.runTransaction frame) := by
  have hfl := (cfgBounds_of_wf hwf).frameLen
  obtain ⟨hlen, heq⟩ | ⟨hlen, hsync, heq⟩ | ⟨hlen, hsync, hcheck, hcid, heq⟩ | ⟨hlen, hsync, hcid, hsum, heq⟩ |
    ⟨hlen, hsync, hcid, hsum, heq⟩ := decodeFrame_cases s.cfgR frame
  · rw [runTransaction_of_stopsEarlier (by rw [heq]; rfl), heq]
    have hstep := hframe.step hp (.lengthFails fun h => hlen (by rw [← hframe.lenR, h, zext8_toNat]))
    have hlenR : s.lenR = BitVec.ofNat 8 frame.length := by
      rw [← hframe.lenR, BitVec.ofNat_toNat, BitVec.setWidth_eq]
    rw [← BitVec.ofNat_toNat, hlenR] at hstep
    exact endsAfter_zero (by simp [hp]) hstep
  · rw [runTransaction_of_stopsEarlier (by rw [heq]; rfl), heq]
    have h := hframe.toPhase .vSync
    have hstep := h.step rfl (.syncFails (h.memRead (by omega)) hsync)
    rw [h.noteRead] at hstep
    exact endsAfter_succ (vLen_passes hframe hp (hframe.lenR_eq hlen)) (endsAfter_zero (by simp) hstep)
  · rw [runTransaction_of_stopsEarlier (by rw [heq]; rfl), heq]
    have h := hframe.toPhase .vCid
    have hstep := h.step rfl (.cidFails (h.memRead (by omega)) hcheck hcid)
    rw [h.noteRead] at hstep
    exact endsAfter_succ (vLen_passes hframe hp (hframe.lenR_eq hlen))
      (endsAfter_succ (vSync_passes hframe (by omega) hsync) (endsAfter_zero (by simp) hstep))
  · rw [runTransaction_of_reachesChecksum (by rw [heq]; rfl), heq]
    have h : Presents ((s.afterChecksum frame).toPhase .vCsum) frame := { hframe with }
    have hstep := h.step rfl (.checksumFails (h.memRead_lastOff hwf hlen) hsum)
    rw [h.noteRead] at hstep
    have hend := endsAfter_checksum hframe hp hwf hlen hsync hcid (endsAfter_zero (by simp) hstep)
    rw [stepCount, show ∀ n : Nat, 6 + n - 1 = 5 + n + 0 by omega]
    exact hend
  · rw [runTransaction_of_reachesChecksum (by rw [heq]; rfl), heq]
    have h : Presents ((s.afterChecksum frame).toPhase .vCsum) frame := { hframe with }
    have hend := endsAfter_checksum hframe hp hwf hlen hsync hcid (endsAfter_fields h rfl hwf hlen hsum)
    rw [stepCount, show ∀ n : Nat, 8 + n - 1 = 5 + n + 2 by omega]
    exact hend

end

/-! ## From `START` -/

section

variable {s : State} {frame : List Byte}

/-- A presented frame at the `START` that takes it (R165). -/
def started (s : State) (frame : List Byte) : State := ((s.present frame).withInbox []).latch

theorem step_start_present (hidle : s.phase = .idle) (hwf : s.cfgPort.wf = true) (hlen : frame.length ≤ 255) :
    step ((s.present frame).withInbox [.pins false true]) = .next (started s frame) := by
  have hlenPort : (BitVec.ofNat 8 frame.length).toNat = frame.length := Nat.mod_eq_of_lt (by omega)
  have hcovers : Memory.covers (Memory.ofBytes frame) (BitVec.ofNat 8 frame.length).toNat = true := by
    rw [hlenPort, Memory.covers_ofBytes]
  have hends : Memory.endsBy (Memory.ofBytes frame) (BitVec.ofNat 8 frame.length).toNat = true := by
    rw [hlenPort, Memory.endsBy_ofBytes]
  exact execStart_of_trueLength (s := (s.present frame).withInbox []) hidle hwf hcovers hends

theorem presents_started (hlen : frame.length ≤ 255) : Presents (started s frame) frame where
  inbox := rfl
  undisturbed := rfl
  lenR := Nat.mod_eq_of_lt (by omega)
  bytes i _ := Memory.read_ofBytes frame i

theorem started_ends (hwf : s.cfgPort.wf = true) (hlen : frame.length ≤ 255) :
    EndsAfter (stepCount s.cfgPort (decodeFrame s.cfgPort frame) - 1) (started s frame)
      ((started s frame).runTransaction frame) :=
  transaction_ends (presents_started hlen) rfl hwf

theorem stepCount_pos (cfg : Cfg) (r : Result) : 0 < stepCount cfg r := by
  unfold stepCount
  split <;> omega

end

/-- Settles O55: the last step of the started transaction leaves what the function view answers. -/
theorem sequencerAgreesWithDecode : Obligations.SequencerAgreesWithDecode := by
  unfold Obligations.SequencerAgreesWithDecode
  intro s frame hidle hwf hlen
  have hruns := (started_ends hwf hlen).runs
  rw [Nat.sub_add_cancel (stepCount_pos _ _)] at hruns
  obtain ⟨hphase, hvalid, hregs, -⟩ := runTransaction_end (started s frame) frame
  refine ⟨_, ?_, hphase, hvalid, hregs, transact_of_idle (s := s.withInbox []) hidle hwf hlen⟩
  rw [Nat.add_comm, runSteps_succ (step_start_present hidle hwf hlen), hruns]

/-- Settles O56: before its last step the transaction is running, and by the invariant a running block has no result. -/
theorem transactionDoesNotEndBeforeItsStepCount : Obligations.TransactionDoesNotEndBeforeItsStepCount := by
  unfold Obligations.TransactionDoesNotEndBeforeItsStepCount
  intro s frame k hidle hwf hlen hk
  obtain ⟨t, hrun, hbusy⟩ := (started_ends hwf hlen).busy_before rfl (Nat.le_sub_one_of_lt hk)
  have hinit : SeqInv ((s.present frame).withInbox [.pins false true]) :=
    seqInv_of_idle (Memory.ofBytes_wf frame) hidle
  have hall : runSteps (1 + k) ((s.present frame).withInbox [.pins false true]) = .next t := by
    rw [Nat.add_comm, runSteps_succ (step_start_present hidle hwf hlen), hrun]
  exact ⟨t, hall, hbusy, (runSteps_keeps stepKeepsSequencerInvariant hall hinit).noResultWhileBusy hbusy⟩

end Sys2Proof.Proofs
end

section
/-! One step seen from outside: what it may change (R44, R51, R61, R174, R224), what it may depend on (R56, R63), where an
error comes from (R186 to R189), and what the error rows do (log 12). -/

namespace Sys2Proof.Proofs

open Sys2Proof Sys2Proof.Machine

/-! ## Reading and writing the buffer -/

/-- Settles O19: the four cases of `MemRead`. -/
theorem readGivesTheByteBelowLength : Obligations.ReadGivesTheByteBelowLength := by
  unfold Obligations.ReadGivesTheByteBelowLength
  intro s off
  refine ⟨fun hlt hdist b hb => ?_, fun hlt hdist => ?_, fun hle => ?_, fun hlt hdist hnone => ?_⟩
  · exact ⟨State.memRead_of_read hlt hdist hb, State.noteRead_of_undisturbed hdist⟩
  · exact ⟨State.memRead_of_disturbed hlt hdist, by rw [State.noteRead, if_pos hdist]⟩
  · exact if_pos hle
  · simp [State.memRead, Nat.not_le.mpr hlt, hdist, hnone]

/-- Settles O20: `read_ofBytes` for the frame, and the two rules of a write. -/
theorem presentedFrameIsWhatIsRead : Obligations.PresentedFrameIsWhatIsRead := by
  unfold Obligations.PresentedFrameIsWhatIsRead
  exact ⟨fun s bytes i => Memory.read_ofBytes bytes i,
    fun m off off' b => ⟨Memory.read_write_self m off b, Memory.read_write_other m b⟩⟩

/-- R61: a written byte changes what is readable below `n` only if it lies there and had another value. -/
theorem agreeBelow_write_iff (m : Memory) (off n : Nat) (b : Byte) :
    Memory.agreeBelow m (Memory.write m off b) n = true ↔ n ≤ off ∨ Memory.read m off = some b := by
  rw [Memory.agreeBelow_iff]
  constructor
  · intro hagree
    rw [or_iff_not_imp_left, Nat.not_le]
    intro hlt
    rw [hagree off hlt, Memory.read_write_self]
  · intro h i hi
    by_cases heq : i = off
    · subst heq
      rw [Memory.read_write_self, h.resolve_left (Nat.not_le.mpr hi)]
    · rw [Memory.read_write_other m b heq]

theorem step_of_inbox_poke {s : State} {off b : BitVec 8} {rest : List HostMove} (hin : s.inbox = .poke off b :: rest) :
    step s = .next ((s.withInbox rest).hostWrites (Memory.write s.fb off.toNat b)) :=
  step_of_inbox_cons hin

/-- Settles O44: the mark is the disagreement below `LEN_R`. -/
theorem bufferChangeWhileBusyFreesTheReads : Obligations.BufferChangeWhileBusyFreesTheReads := by
  unfold Obligations.BufferChangeWhileBusyFreesTheReads
  intro s off b rest t hbusy hin h
  cases (step_of_inbox_poke hin).symm.trans h
  have hb : (s.withInbox rest).busy = true := bne_iff_ne.mpr hbusy
  have hmark : ((s.withInbox rest).hostWrites (Memory.write s.fb off.toNat b)).disturbed =
      (s.disturbed || !Memory.agreeBelow s.fb (Memory.write s.fb off.toNat b) s.lenR.toNat) := by
    rw [State.hostWrites_disturbed, hb, Bool.true_and]
    rfl
  rw [hmark]
  constructor
  · intro hlt hne
    have hchanged := mt (agreeBelow_write_iff s.fb off.toNat s.lenR.toNat b).mp
      (not_or.mpr ⟨Nat.not_le.mpr hlt, hne⟩)
    rw [Bool.eq_false_iff.mpr hchanged, Bool.not_false, Bool.or_true]
  · intro hkept
    rw [(agreeBelow_write_iff s.fb off.toNat s.lenR.toNat b).mpr hkept, Bool.not_true, Bool.or_false]

/-! ## The moves of the host -/

/-- While idle there is no transaction to disturb. -/
theorem hostWrites_disturbed_of_idle {s : State} (hidle : s.phase = .idle) (m : Memory) :
    (s.hostWrites m).disturbed = s.disturbed := by
  rw [State.hostWrites_disturbed, State.busy, hidle]
  exact Bool.or_false _

/-- Settles O43: each move by its own definition. -/
theorem portMovesChangeNoRegister : Obligations.PortMovesChangeNoRegister := by
  unfold Obligations.PortMovesChangeNoRegister
  intro s rest
  refine ⟨fun c hin => step_of_inbox_cons hin, fun n hin => step_of_inbox_cons hin, ?frame, ?long, ?poke⟩
  case frame =>
    intro bytes hin hlen
    refine ⟨((s.withInbox rest).present bytes).disturbed,
      fun hidle => hostWrites_disturbed_of_idle (s := s.withInbox rest) hidle _, ?_⟩
    rw [step_of_inbox_cons hin, runMove, if_pos (presentable_iff.mpr hlen)]
    rfl
  case long =>
    intro bytes hin hlen
    have hlong : presentable bytes = false := decide_eq_false (Nat.not_le.mpr hlen)
    obtain hin | hin := hin
    · rw [step_of_inbox_cons hin, runMove, hlong]
      rfl
    · rw [step_of_inbox_cons hin, runMove, runFrame_eq, State.transact, if_pos hlong]
  case poke =>
    intro off b hin
    exact ⟨_, fun hidle => hostWrites_disturbed_of_idle (s := s.withInbox rest) hidle _, step_of_inbox_poke hin⟩

/-- Settles O41: the fetched word decodes to the instruction of `PHASE`. -/
theorem stepRunsTheDecodedInstruction : Obligations.StepRunsTheDecodedInstruction := by
  unfold Obligations.StepRunsTheDecodedInstruction
  have hfetch : ∀ (s : State) (i : Instr), decodeWord s.fetchWord = .ok i → s.phase.instr = i := fun s i h =>
    Except.ok.inj ((decodeWord_phase_code s.phase).symm.trans h)
  refine ⟨?none, fun s => ⟨_, decodeWord_phase_code s.phase⟩, ?start, ?low, ?transact, ?waitOver, ?wait⟩
  case none =>
    intro s i hin hi
    rw [step_of_inbox_nil hin, hfetch s i hi]
  case start =>
    intro s rest hin
    exact step_of_inbox_cons hin
  case low =>
    intro s rest i hin hi
    rw [step_of_inbox_cons hin, ← hfetch s i hi]
    exact runSequencer_eq (s.withInbox rest)
  case transact =>
    intro s rest bytes i hin hi
    rw [step_of_inbox_cons hin, runMove, runFrame, hi]
  case waitOver =>
    intro s rest hin hvalid
    rw [step_of_inbox_cons hin]
    exact if_pos hvalid
  case wait =>
    intro s rest i hin hnone hi
    have hback : (s.withInbox rest).withInbox (.wait :: rest) = s := by
      rw [← hin]
      rfl
    have hmove : runMove .wait (s.withInbox rest) = runSequencer ((s.withInbox rest).withInbox (.wait :: rest)) :=
      if_neg (Bool.eq_false_iff.mp hnone)
    rw [step_of_inbox_cons hin, hmove, hback, runSequencer_eq, hfetch s i hi]

/-! ## The error rows (log 12) -/

section

variable {s : State} {b : Byte}

theorem exec_badSync_of_read (h : s.memRead 0 = .ok b) : exec .badSync s = .next (s.noteRead.fail 2#3 0x55#8 b) :=
  show execBadSync s = _ from State.withByte_of_read h

theorem exec_badCommandId_of_read (h : s.memRead 1 = .ok b) :
    exec .badCommandId s = .next (s.noteRead.fail 3#3 s.cfgR.expectedCid b) :=
  show execBadCommandId s = _ from State.withByte_of_read h

theorem exec_checksumMismatch_of_read (h : s.memRead (lastOff s.cfgR) = .ok b) :
    exec .checksumMismatch s = .next (s.noteRead.fail 4#3 s.csum b) :=
  show execChecksumMismatch s = _ from State.withByte_of_read h

end

/-- Settles O34: the success row is the end of `X_VOLT`, and each failure row is `fail` after its read. -/
theorem errorRowsRecordTheirPayloads : Obligations.ErrorRowsRecordTheirPayloads := by
  unfold Obligations.ErrorRowsRecordTheirPayloads
  exact ⟨fun s hi lo hhi hlo => completeOk_of_reads hhi hlo, fun s => rfl, fun s b => exec_badSync_of_read,
    fun s b => exec_badCommandId_of_read, fun s r => exec_checksumMismatch_of_read⟩

/-- Settles O36: of the rows of the transition table, five make a result valid: four checks that fail, and `X_VOLT`. -/
theorem eachErrorComesFromItsOwnCheck : Obligations.EachErrorComesFromItsOwnCheck := by
  unfold Obligations.EachErrorComesFromItsOwnCheck
  intro s t hin hnone hstep hvalid
  have hmicro := (step_next_iff hin).mp hstep
  obtain ⟨p, hp⟩ : ∃ p : Phase, s.phase = p := ⟨_, rfl⟩
  rw [hp] at hmicro
  cases hmicro with
  | lengthFails h => exact ⟨fun _ => ⟨hp, h, rfl, rfl, rfl⟩, by simp, by simp, by simp, by simp⟩
  | syncFails hread h =>
    exact ⟨by simp, fun _ => ⟨hp, hread, h, rfl, exec_badSync_of_read hread⟩, by simp, by simp, by simp⟩
  | cidFails hread hcheck h =>
    exact ⟨by simp, by simp, fun _ => ⟨hp, hread, hcheck, h, rfl, exec_badCommandId_of_read hread⟩, by simp, by simp⟩
  | checksumFails hread h =>
    exact ⟨by simp, by simp, by simp, fun _ => ⟨hp, hread, h, rfl, exec_checksumMismatch_of_read hread⟩, by simp⟩
  | voltage => exact ⟨by simp, by simp, by simp, by simp, .inl ⟨rfl, rfl, hp⟩⟩
  | _ => exact absurd (hnone.symm.trans hvalid) (by simp)

/-! ## What a step may change -/

theorem execStart_sameEnvironment {s t : State} (h : execStart s = .next t) : SameEnvironment s t := by
  obtain ⟨-, rfl⟩ | ⟨-, -, -, rfl⟩ := execStart_next h
  · exact ⟨rfl, rfl, rfl, rfl⟩
  · exact ⟨rfl, rfl, rfl, rfl⟩

/-- R51: every instruction but the frame rows writes registers only. -/
theorem exec_sameEnvironment {i : Instr} {s t : State} (hnext : exec i s = .next t)
    (h6 : ∀ c st h l k : Byte, i ≠ .frame6 c st h l k) (h7 : ∀ c st h l u k : Byte, i ≠ .frame7 c st h l u k) :
    SameEnvironment s t := by
  cases i with
  | idle => exact (exec_instr_next_iff (p := .idle).mp hnext).sameEnvironment
  | vLen => exact (exec_instr_next_iff (p := .vLen).mp hnext).sameEnvironment
  | vSync => exact (exec_instr_next_iff (p := .vSync).mp hnext).sameEnvironment
  | vCid => exact (exec_instr_next_iff (p := .vCid).mp hnext).sameEnvironment
  | cInit => exact (exec_instr_next_iff (p := .cInit).mp hnext).sameEnvironment
  | cAdd => exact (exec_instr_next_iff (p := .cAdd).mp hnext).sameEnvironment
  | cFin => exact (exec_instr_next_iff (p := .cFin).mp hnext).sameEnvironment
  | vCsum => exact (exec_instr_next_iff (p := .vCsum).mp hnext).sameEnvironment
  | xFlags => exact (exec_instr_next_iff (p := .xFlags).mp hnext).sameEnvironment
  | xVolt | errNone => exact (exec_instr_next_iff (p := .xVolt).mp hnext).sameEnvironment
  | start => exact execStart_sameEnvironment hnext
  | frame6 c st h l k => exact absurd rfl (h6 c st h l k)
  | frame7 c st h l u k => exact absurd rfl (h7 c st h l u k)
  | lengthMismatch =>
    cases hnext
    exact ⟨rfl, rfl, rfl, rfl⟩
  | badSync =>
    obtain ⟨b, hread⟩ := memRead_of_next (fun _ => exec_badSync_of_fault) hnext
    cases (exec_badSync_of_read hread).symm.trans hnext
    exact ⟨rfl, rfl, rfl, rfl⟩
  | badCommandId =>
    obtain ⟨b, hread⟩ := memRead_of_next (fun _ => exec_badCommandId_of_fault) hnext
    cases (exec_badCommandId_of_read hread).symm.trans hnext
    exact ⟨rfl, rfl, rfl, rfl⟩
  | checksumMismatch =>
    obtain ⟨b, hread⟩ := memRead_of_next (fun _ => exec_checksumMismatch_of_fault) hnext
    cases (exec_checksumMismatch_of_read hread).symm.trans hnext
    exact ⟨rfl, rfl, rfl, rfl⟩

/-- Settles O49. -/
theorem blockNeverWritesTheBuffer : Obligations.BlockNeverWritesTheBuffer := by
  unfold Obligations.BlockNeverWritesTheBuffer
  intro i s t h h6 h7
  obtain ⟨hfb, hcfg, hlen, hin⟩ := exec_sameEnvironment h h6 h7
  exact ⟨hfb, hcfg, hlen, hin⟩

/-- Settles O50: the rows of the table, and `START` taken in `IDLE`. -/
theorem phaseFollowsTheTransitionTable : Obligations.PhaseFollowsTheTransitionTable := by
  unfold Obligations.PhaseFollowsTheTransitionTable
  constructor
  · intro s t hin h
    refine ⟨((step_next_iff hin).mp h).phaseRow rfl, fun hidle => ?_⟩
    cases (step_of_idle hin hidle).symm.trans h
    exact hidle
  · intro s t h hidle
    rw [execStart_next_of_idle hidle h, State.latch_phase]

/-! ## Flags -/

/-- The state with other flags (R27 to R30). -/
def withFlags (s : State) (e v p d : Bool) : State :=
  { s with hasError := e, voltFlag := v, isSupported := p, dischg := d }

/-- R44: the flags decide no row, and a row that writes them writes the same ones. -/
theorem MicroStep.with_flags {s t : State} {ph : Phase} (h : MicroStep s ph t) (e v p d : Bool) :
    ∃ t' : State, MicroStep (withFlags s e v p d) ph t' ∧
      withFlags t' t.hasError t.voltFlag t.isSupported t.dischg = t := by
  cases h with
  | hold => exact ⟨_, .hold, rfl⟩
  | lengthPasses h => exact ⟨_, .lengthPasses h, rfl⟩
  | lengthFails h => exact ⟨_, .lengthFails h, rfl⟩
  | syncPasses hread => exact ⟨_, .syncPasses hread, rfl⟩
  | syncFails hread h => exact ⟨_, .syncFails hread h, rfl⟩
  | cidPasses hread h => exact ⟨_, .cidPasses hread h, rfl⟩
  | cidFails hread hcheck h => exact ⟨_, .cidFails hread hcheck h, rfl⟩
  | spanBegins hread h => exact ⟨_, .spanBegins hread h, rfl⟩
  | spanIsEmpty hread h => exact ⟨_, .spanIsEmpty hread h, rfl⟩
  | spanGoesOn hread h => exact ⟨_, .spanGoesOn hread h, rfl⟩
  | spanEnds hread h => exact ⟨_, .spanEnds hread h, rfl⟩
  | complements => exact ⟨_, .complements, rfl⟩
  | checksumPasses hread => exact ⟨_, .checksumPasses hread, rfl⟩
  | checksumFails hread h => exact ⟨_, .checksumFails hread h, rfl⟩
  | flags hread => exact ⟨_, .flags hread, rfl⟩
  | voltage hhi hlo => exact ⟨_, .voltage hhi hlo, rfl⟩

/-- Settles O51: `fail` and `X_FLAGS` write the flags; every other row leaves them. -/
theorem flagsHaveTwoWritersAndNoReader : Obligations.FlagsHaveTwoWritersAndNoReader := by
  unfold Obligations.FlagsHaveTwoWritersAndNoReader
  constructor
  · intro s t hin h hchanged
    have hmicro := (step_next_iff hin).mp h
    obtain ⟨p, hp⟩ : ∃ p : Phase, s.phase = p := ⟨_, rfl⟩
    rw [hp] at hmicro
    cases hmicro with
    | flags => exact .inl hp
    | lengthFails | syncFails | cidFails | checksumFails => exact .inr ⟨rfl, rfl, rfl⟩
    | _ => exact absurd rfl hchanged
  · intro s t e v p d hin h
    obtain ⟨t', hmicro, heq⟩ := ((step_next_iff hin).mp h).with_flags e v p d
    exact ⟨t', (step_next_iff (s := withFlags s e v p d) hin).mpr hmicro, heq⟩

/-! ## What a step may depend on -/

/-- The state with another buffer and other ports. -/
def mapEnvironment (m : Memory → Memory) (c : Cfg → Cfg) (n : BitVec 8 → BitVec 8) (s : State) : State :=
  { s with fb := m s.fb, cfgPort := c s.cfgPort, lenPort := n s.lenPort }

section

variable {s : State} {m : Memory → Memory} {c : Cfg → Cfg} {n : BitVec 8 → BitVec 8}

theorem memRead_mapEnvironment {off : Nat} (h : Memory.read (m s.fb) off = Memory.read s.fb off) :
    (mapEnvironment m c n s).memRead off = s.memRead off :=
  State.memRead_congr rfl rfl rfl h

/-- If the byte read is the same, so is what the rest does with it, or the fault. -/
theorem withByte_mapEnvironment {off : Nat} {k k' : Byte → State → Outcome}
    (h : Memory.read (m s.fb) off = Memory.read s.fb off)
    (hk : ∀ b : Byte, k' b (mapEnvironment m c n s.noteRead) = mapNext (mapEnvironment m c n) (k b s.noteRead)) :
    (mapEnvironment m c n s).withByte off k' = mapNext (mapEnvironment m c n) (s.withByte off k) := by
  have hread := memRead_mapEnvironment (c := c) (n := n) h
  cases hs : s.memRead off with
  | ok b =>
    rw [State.withByte_of_read hs, State.withByte_of_read (hread.trans hs)]
    exact hk b
  | error f =>
    rw [State.withByte_of_fault hs, State.withByte_of_fault (hread.trans hs)]
    rfl

theorem ite_mapNext {f : State → State} {p : Prop} [Decidable p] {a b a' b' : State} (ha : a' = f a) (hb : b' = f b) :
    (if p then .next a' else .next b' : Outcome) = mapNext f (if p then .next a else .next b) := by
  rw [ha, hb, apply_ite (mapNext f)]
  rfl

/-- R56, R63: a micro-operation sees of the environment the bytes at its own offsets. -/
theorem exec_mapEnvironment (h : ∀ off ∈ s.reads, Memory.read (m s.fb) off = Memory.read s.fb off) :
    exec s.phase.instr (mapEnvironment m c n s) = mapNext (mapEnvironment m c n) (exec s.phase.instr s) := by
  unfold State.reads at h
  cases hp : s.phase <;> simp only [hp, List.forall_mem_cons] at h
  case idle | cFin => rfl
  case vLen =>
    show execVLen _ = mapNext _ (execVLen s)
    exact ite_mapNext rfl rfl
  case vSync =>
    show execVSync _ = mapNext _ (execVSync s)
    exact withByte_mapEnvironment h.1 fun b => ite_mapNext rfl rfl
  case vCid =>
    show execVCid _ = mapNext _ (execVCid s)
    exact withByte_mapEnvironment h.1 fun b => ite_mapNext rfl rfl
  case cInit =>
    show execCInit _ = mapNext _ (execCInit s)
    exact withByte_mapEnvironment h.1 fun b => rfl
  case cAdd =>
    show execCAdd _ = mapNext _ (execCAdd s)
    exact withByte_mapEnvironment h.1 fun b => rfl
  case vCsum =>
    show execVCsum _ = mapNext _ (execVCsum s)
    exact withByte_mapEnvironment h.1 fun r => ite_mapNext rfl rfl
  case xFlags =>
    show execXFlags _ = mapNext _ (execXFlags s)
    exact withByte_mapEnvironment h.1 fun b => rfl
  case xVolt =>
    show (mapEnvironment m c n s).completeOk = mapNext _ s.completeOk
    exact withByte_mapEnvironment h.1 fun hi =>
      withByte_mapEnvironment (s := s.noteRead) h.2.1 fun lo => rfl

end

/-- Settles O52: other ports leave every read as it is. -/
theorem portsAreSampledOnlyByStart : Obligations.PortsAreSampledOnlyByStart := by
  unfold Obligations.PortsAreSampledOnlyByStart
  intro s c n hin
  rw [step_of_inbox_nil hin, step_of_inbox_nil (s := { s with cfgPort := c, lenPort := n }) hin]
  exact exec_mapEnvironment (s := s) (m := id) (c := fun _ => c) (n := fun _ => n) fun _ _ => rfl

/-- Settles O53: another buffer with the same bytes at the offsets read. -/
theorem stepReadsOnlyTheListedOffsets : Obligations.StepReadsOnlyTheListedOffsets := by
  unfold Obligations.StepReadsOnlyTheListedOffsets
  intro s fb hin hsame
  rw [step_of_inbox_nil hin, step_of_inbox_nil (s := { s with fb := fb }) hin]
  exact exec_mapEnvironment (s := s) (m := fun _ => fb) (c := id) (n := id) hsame

end Sys2Proof.Proofs
end

section
/-! The encodings (R70 to R76, R80 to R84): decoder and encoder undo each other, every other word is rejected by name, and
the bits of a frame are numbered from the left. -/

namespace Sys2Proof.Proofs

open Sys2Proof Sys2Proof.Machine

/-! ## Decoder and encoder -/

/-- Settles O1: the decoder evaluated on each word. -/
theorem sampleWordsDecodeAsTabled : Obligations.SampleWordsDecodeAsTabled := by
  unfold Obligations.SampleWordsDecodeAsTabled
  decide

/-- Settles O2: row by row; the operands of a frame row are its bytes. -/
theorem encodedInstructionDecodesBack : Obligations.EncodedInstructionDecodesBack := by
  unfold Obligations.EncodedInstructionDecodesBack
  intro i _
  cases i <;> rfl

section

variable {i : Instr}

theorem encode_of_decodePhase4 {code : BitVec 4} (h : decodePhase4 code = .ok i) : encode i = .phase4 code := by
  unfold decodePhase4 at h
  split_ifs at h
  all_goals
    cases h
    subst code
    rfl

theorem encode_of_decodeHostCmd {bit : BitVec 1} (h : decodeHostCmd bit = .ok i) : encode i = .hostCmd bit := by
  unfold decodeHostCmd at h
  split_ifs at h
  cases h
  subst bit
  rfl

theorem encode_of_decodeErrCode3 {code : BitVec 3} (h : decodeErrCode3 code = .ok i) : encode i = .errCode3 code := by
  unfold decodeErrCode3 at h
  split_ifs at h
  all_goals
    cases h
    subst code
    rfl

theorem encode_of_decodeFrameBytes {bytes : List Byte} (h : decodeFrameBytes bytes = .ok i) :
    encode i = .frame bytes := by
  unfold decodeFrameBytes at h
  split at h
  case h_3 => cases h
  all_goals
    split_ifs at h with hsync
    cases h
    rw [hsync]
    rfl

end

/-- Settles O3: format by format. -/
theorem decodedWordEncodesBack : Obligations.DecodedWordEncodesBack := by
  unfold Obligations.DecodedWordEncodesBack
  intro w i h
  cases w with
  | phase4 code => exact encode_of_decodePhase4 h
  | hostCmd bit => exact encode_of_decodeHostCmd h
  | frame bytes => exact encode_of_decodeFrameBytes h
  | errCode3 code => exact encode_of_decodeErrCode3 h

/-! ## Words that are no row -/

/-- R83. -/
theorem decodePhase4_reserved : ∀ code : BitVec 4, 10 ≤ code.toNat → decodePhase4 code = .error (.reservedPhase code) := by
  decide

/-- R84. -/
theorem decodeErrCode3_reserved :
    ∀ code : BitVec 3, 5 ≤ code.toNat → decodeErrCode3 code = .error (.reservedErrCode code) := by
  decide

/-- R70: both patterns fix the number of bytes. -/
theorem decodeFrameBytes_of_otherLength {bytes : List Byte} (h6 : bytes.length ≠ 6) (h7 : bytes.length ≠ 7) :
    decodeFrameBytes bytes = .error (.notAFrameLength bytes.length) := by
  unfold decodeFrameBytes
  split
  · exact absurd rfl h6
  · exact absurd rfl h7
  · rfl

/-- R71, R72: both patterns fix the first byte. -/
theorem decodeFrameBytes_of_otherSync {sync : Byte} {bytes : List Byte} (hsync : sync ≠ 0x55#8)
    (hlen : bytes.length = 5 ∨ bytes.length = 6) : decodeFrameBytes (sync :: bytes) = .error (.notASyncByte sync) := by
  obtain hlen | hlen := hlen
  · match bytes, hlen with
    | [_, _, _, _, _], _ => exact if_neg hsync
  · match bytes, hlen with
    | [_, _, _, _, _, _], _ => exact if_neg hsync

/-- Settles O4. -/
theorem otherWordsAreRejected : Obligations.OtherWordsAreRejected := by
  unfold Obligations.OtherWordsAreRejected
  exact ⟨decodePhase4_reserved, decodeErrCode3_reserved, rfl, fun _ => decodeFrameBytes_of_otherLength,
    fun _ _ => decodeFrameBytes_of_otherSync⟩

/-! ## The bits of a frame -/

theorem bitsMsbFirst_length (n : Nat) (v : BitVec n) : (bitsMsbFirst n v).length = n := by
  rw [bitsMsbFirst, List.length_map, List.length_range]

/-- R70: inside a byte bit 7 comes first. -/
theorem bitsMsbFirst_getElem? (b : Byte) {j : Nat} (hj : j < 8) : (bitsMsbFirst 8 b)[7 - j]? = some (b.getLsbD j) := by
  have hrev : b.getMsbD (7 - j) = b.getLsbD j := by
    rw [BitVec.getMsbD_eq_getLsbD, decide_eq_true (by omega), Bool.true_and]
    congr 1
    omega
  rw [bitsMsbFirst, List.getElem?_map, List.getElem?_range (by omega), Option.map_some, hrev]

/-- R70: byte 0 comes first, and every byte takes eight positions. -/
theorem frameBits_getElem? (frame : List Byte) {i j : Nat} {b : Byte} (hb : frame[i]? = some b) (hj : j < 8) :
    (Encoded.frame frame).bits[8 * i + (7 - j)]? = some (b.getLsbD j) := by
  have hbits : ∀ f : List Byte, (Encoded.frame f).bits = f.flatMap (bitsMsbFirst 8) := fun _ => rfl
  induction frame generalizing i with
  | nil => simp at hb
  | cons c frame ih =>
    rw [hbits, List.flatMap_cons]
    cases i with
    | zero =>
      obtain rfl : c = b := by simpa using hb
      rw [List.getElem?_append_left (by rw [bitsMsbFirst_length]; omega), Nat.mul_zero, Nat.zero_add,
        bitsMsbFirst_getElem? c hj]
    | succ i =>
      have hshift : 8 * (i + 1) + (7 - j) - 8 = 8 * i + (7 - j) := by omega
      rw [List.getElem?_append_right (by rw [bitsMsbFirst_length]; omega), bitsMsbFirst_length, hshift, ← hbits]
      exact ih (by simpa using hb)

/-- Settles O5: the position of each bit, and the lengths of the two frame rows. -/
theorem frameBitsAreNumberedFromTheLeft : Obligations.FrameBitsAreNumberedFromTheLeft := by
  unfold Obligations.FrameBitsAreNumberedFromTheLeft
  exact ⟨fun frame _ _ _ => frameBits_getElem? frame, Laws.EncodedLength.frame6, Laws.EncodedLength.frame7⟩

end Sys2Proof.Proofs
end
